-- ==== Sys2Proof/Word.lean ====
section
/-! DEFINITION. The word types of CHIP-8 CORE (spec/00_scope.md R4) and the framebuffer's type. -/

namespace Sys2Proof

/-- Eight bits: a general register, a timer, a byte of memory (R10, R15, R16, R19). -/
abbrev Byte := BitVec 8

/-- Sixteen bits: `I`, `pc`, a stack entry, an instruction word (R12, R13, R14, R47). -/
abbrev Word := BitVec 16

/-- A general register's index, 0..15 (R10). -/
abbrev Reg := Fin 16

/-- A key's index, 0..15 (R18). -/
abbrev Key := Fin 16

/-- One row of the framebuffer: bit `c` is the pixel of column `c` (R17; as signals, R69's `fb_out[31:0][63:0]`). -/
abbrev PixelRow := BitVec 64

/-- The 64 by 32 framebuffer, row 0 at the top (R17). -/
abbrev Framebuffer := Vector PixelRow 32

/-- The key snapshot: entry `k` is true when key `k` is pressed (R18). -/
abbrev Keys := Vector Bool 16

end Sys2Proof
end

