-- ==== Sys2Proof/Syntax.lean ====
section
/-! DEFINITION. The 35 instructions of CHIP-8 CORE, one constructor per row of spec/opcode_table.json
(spec/30_encoding.md R51), in the table's order. -/

namespace Sys2Proof

/-- An instruction with its operand fields (R48): `x`, `y` register indices, `nn` a byte, `nnn` a 12-bit address,
`n` a row count. -/
inductive Instr where
  /-- `00E0` (R102). -/
  | cls
  /-- `00EE` (R71). -/
  | ret
  /-- `1NNN` (R72). -/
  | jp (nnn : BitVec 12)
  /-- `2NNN` (R73). -/
  | call (nnn : BitVec 12)
  /-- `3XNN` (R74). -/
  | seVxNn (x : Reg) (nn : Byte)
  /-- `4XNN` (R75). -/
  | sneVxNn (x : Reg) (nn : Byte)
  /-- `5XY0` (R76). -/
  | seVxVy (x y : Reg)
  /-- `6XNN` (R80). -/
  | ldVxNn (x : Reg) (nn : Byte)
  /-- `7XNN` (R81). -/
  | addVxNn (x : Reg) (nn : Byte)
  /-- `8XY0` (R82). -/
  | ldVxVy (x y : Reg)
  /-- `8XY1` (R83). -/
  | orVxVy (x y : Reg)
  /-- `8XY2` (R84). -/
  | andVxVy (x y : Reg)
  /-- `8XY3` (R85). -/
  | xorVxVy (x y : Reg)
  /-- `8XY4` (R86). -/
  | addVxVy (x y : Reg)
  /-- `8XY5` (R87). -/
  | subVxVy (x y : Reg)
  /-- `8XY6` (R88). -/
  | shrVxVy (x y : Reg)
  /-- `8XY7` (R89). -/
  | subnVxVy (x y : Reg)
  /-- `8XYE` (R90). -/
  | shlVxVy (x y : Reg)
  /-- `9XY0` (R77). -/
  | sneVxVy (x y : Reg)
  /-- `ANNN` (R95). -/
  | ldINnn (nnn : BitVec 12)
  /-- `BNNN` (R78). -/
  | jpV0 (nnn : BitVec 12)
  /-- `CXNN` (R91). -/
  | rnd (x : Reg) (nn : Byte)
  /-- `DXYN` (R103). -/
  | drw (x y : Reg) (n : BitVec 4)
  /-- `EX9E` (R110). -/
  | skp (x : Reg)
  /-- `EXA1` (R111). -/
  | sknp (x : Reg)
  /-- `FX07` (R113). -/
  | ldVxDt (x : Reg)
  /-- `FX0A` (R112). -/
  | ldVxK (x : Reg)
  /-- `FX15` (R114). -/
  | ldDtVx (x : Reg)
  /-- `FX18` (R115). -/
  | ldStVx (x : Reg)
  /-- `FX1E` (R96). -/
  | addIVx (x : Reg)
  /-- `FX29` (R97). -/
  | ldFVx (x : Reg)
  /-- `FX33` (R98). -/
  | ldBVx (x : Reg)
  /-- `FX55` (R99). -/
  | ldMiVx (x : Reg)
  /-- `FX65` (R100). -/
  | ldVxMi (x : Reg)
  /-- `0NNN`, but for `00E0` and `00EE` (R70). -/
  | sys (nnn : BitVec 12)
  deriving DecidableEq, Repr

end Sys2Proof
end

