-- ==== Sys2Proof/Decode.lean ====
section
/-! DEFINITION. The decoder of spec/30_encoding.md R48 and R52, total on any bytes and rejecting by name what R53 lists,
and after it the encoder of R51. -/

namespace Sys2Proof

/-! The fields of R48. -/

/-- `g = op[15:12]`. -/
def fieldG (op : Word) : BitVec 4 := op.extractLsb' 12 4

/-- `x = op[11:8]`, a register index. -/
def fieldX (op : Word) : Reg := (op.extractLsb' 8 4).toFin

/-- `y = op[7:4]`, a register index. -/
def fieldY (op : Word) : Reg := (op.extractLsb' 4 4).toFin

/-- `n = op[3:0]`. -/
def fieldN (op : Word) : BitVec 4 := op.extractLsb' 0 4

/-- `nn = op[7:0]`. -/
def fieldNn (op : Word) : Byte := op.extractLsb' 0 8

/-- `nnn = op[11:0]`. -/
def fieldNnn (op : Word) : BitVec 12 := op.extractLsb' 0 12

/-- The word of two bytes in memory, the one at the lower address in the high half (R34, R47). -/
def wordOfBytes (hi lo : Byte) : Word := hi ++ lo

/-- The two bytes of a word as memory holds them, lower address first (R47). -/
def bytesOfWord (op : Word) : List Byte := [op.extractLsb' 8 8, op.extractLsb' 0 8]

/-- Why bytes are no instruction: one name per row of R53's table (its `SYS` row apart, which decodes, R52). -/
inductive Unmatched where
  /-- Fewer than the two bytes an instruction has (R47). -/
  | truncated
  /-- `5XYn` with `n` not 0. -/
  | group5
  /-- `8XYn` with `n` none of the nine ALU operations. -/
  | group8
  /-- `9XYn` with `n` not 0. -/
  | group9
  /-- `EXnn` with `nn` neither `9E` nor `A1`. -/
  | groupE
  /-- `FXnn` with `nn` none of the nine operations. -/
  | groupF
  deriving DecidableEq, Repr

/-- Group 8: the ALU operation is `n` (R52). -/
def decodeGroup8 (x y : Reg) (n : BitVec 4) : Except Unmatched Instr :=
  match n with
  | 0x0#4 => .ok (.ldVxVy x y)
  | 0x1#4 => .ok (.orVxVy x y)
  | 0x2#4 => .ok (.andVxVy x y)
  | 0x3#4 => .ok (.xorVxVy x y)
  | 0x4#4 => .ok (.addVxVy x y)
  | 0x5#4 => .ok (.subVxVy x y)
  | 0x6#4 => .ok (.shrVxVy x y)
  | 0x7#4 => .ok (.subnVxVy x y)
  | 0xE#4 => .ok (.shlVxVy x y)
  | _ => .error .group8

/-- Group E: the two key skips (R52). -/
def decodeGroupE (x : Reg) (nn : Byte) : Except Unmatched Instr :=
  match nn with
  | 0x9E#8 => .ok (.skp x)
  | 0xA1#8 => .ok (.sknp x)
  | _ => .error .groupE

/-- Group F: the operation is `nn` (R52). -/
def decodeGroupF (x : Reg) (nn : Byte) : Except Unmatched Instr :=
  match nn with
  | 0x07#8 => .ok (.ldVxDt x)
  | 0x0A#8 => .ok (.ldVxK x)
  | 0x15#8 => .ok (.ldDtVx x)
  | 0x18#8 => .ok (.ldStVx x)
  | 0x1E#8 => .ok (.addIVx x)
  | 0x29#8 => .ok (.ldFVx x)
  | 0x33#8 => .ok (.ldBVx x)
  | 0x55#8 => .ok (.ldMiVx x)
  | 0x65#8 => .ok (.ldVxMi x)
  | _ => .error .groupF

/-- `Decode(op)` of R52. The last line is group F, the only group left. -/
def decode (op : Word) : Except Unmatched Instr :=
  match fieldG op with
  | 0x0#4 => .ok (if op = 0x00E0#16 then .cls else if op = 0x00EE#16 then .ret else .sys (fieldNnn op))
  | 0x1#4 => .ok (.jp (fieldNnn op))
  | 0x2#4 => .ok (.call (fieldNnn op))
  | 0x3#4 => .ok (.seVxNn (fieldX op) (fieldNn op))
  | 0x4#4 => .ok (.sneVxNn (fieldX op) (fieldNn op))
  | 0x5#4 => if fieldN op = 0x0#4 then .ok (.seVxVy (fieldX op) (fieldY op)) else .error .group5
  | 0x6#4 => .ok (.ldVxNn (fieldX op) (fieldNn op))
  | 0x7#4 => .ok (.addVxNn (fieldX op) (fieldNn op))
  | 0x8#4 => decodeGroup8 (fieldX op) (fieldY op) (fieldN op)
  | 0x9#4 => if fieldN op = 0x0#4 then .ok (.sneVxVy (fieldX op) (fieldY op)) else .error .group9
  | 0xA#4 => .ok (.ldINnn (fieldNnn op))
  | 0xB#4 => .ok (.jpV0 (fieldNnn op))
  | 0xC#4 => .ok (.rnd (fieldX op) (fieldNn op))
  | 0xD#4 => .ok (.drw (fieldX op) (fieldY op) (fieldN op))
  | 0xE#4 => decodeGroupE (fieldX op) (fieldNn op)
  | _ => decodeGroupF (fieldX op) (fieldNn op)

/-- The instruction at the head of a list of bytes, lowest address first, and the bytes after it (R47: two bytes each). -/
def decodeBytes : List Byte → Except Unmatched (Instr × List Byte)
  | hi :: lo :: rest =>
    match decode (wordOfBytes hi lo) with
    | .ok i => .ok (i, rest)
    | .error e => .error e
  | _ => .error .truncated

/-- The host's question of one row of spec/opcode_table.json: the instruction read from the bits `w`, laid out in memory
as R34 has it. -/
def decodeTableWord (nbits w : Nat) : Option Instr :=
  match decodeBytes (bytesOfWord (BitVec.ofNat 16 (w % 2 ^ nbits))) with
  | .ok (i, _) => some i
  | .error _ => none

/-! The encoder: the patterns of R51 by format (R49). -/

/-- Formats `FA` and, with all bits fixed, `F0`: group and address. -/
def encodeA (g : BitVec 4) (nnn : BitVec 12) : Word := g ++ nnn

/-- Formats `FXI` and, with `nn` fixed, `FX`: group, register and trailing byte. -/
def encodeXI (g : BitVec 4) (x : Reg) (nn : Byte) : Word := g ++ (BitVec.ofFin (w := 4) x ++ nn)

/-- Formats `FXYN` and, with `n` fixed, `FXY`: group, two registers and trailing nibble. -/
def encodeXYN (g : BitVec 4) (x y : Reg) (n : BitVec 4) : Word :=
  g ++ (BitVec.ofFin (w := 4) x ++ (BitVec.ofFin (w := 4) y ++ n))

/-- The word of an instruction (R51). -/
def encode : Instr → Word
  | .cls => encodeA 0x0#4 0x0E0#12
  | .ret => encodeA 0x0#4 0x0EE#12
  | .jp nnn => encodeA 0x1#4 nnn
  | .call nnn => encodeA 0x2#4 nnn
  | .seVxNn x nn => encodeXI 0x3#4 x nn
  | .sneVxNn x nn => encodeXI 0x4#4 x nn
  | .seVxVy x y => encodeXYN 0x5#4 x y 0x0#4
  | .ldVxNn x nn => encodeXI 0x6#4 x nn
  | .addVxNn x nn => encodeXI 0x7#4 x nn
  | .ldVxVy x y => encodeXYN 0x8#4 x y 0x0#4
  | .orVxVy x y => encodeXYN 0x8#4 x y 0x1#4
  | .andVxVy x y => encodeXYN 0x8#4 x y 0x2#4
  | .xorVxVy x y => encodeXYN 0x8#4 x y 0x3#4
  | .addVxVy x y => encodeXYN 0x8#4 x y 0x4#4
  | .subVxVy x y => encodeXYN 0x8#4 x y 0x5#4
  | .shrVxVy x y => encodeXYN 0x8#4 x y 0x6#4
  | .subnVxVy x y => encodeXYN 0x8#4 x y 0x7#4
  | .shlVxVy x y => encodeXYN 0x8#4 x y 0xE#4
  | .sneVxVy x y => encodeXYN 0x9#4 x y 0x0#4
  | .ldINnn nnn => encodeA 0xA#4 nnn
  | .jpV0 nnn => encodeA 0xB#4 nnn
  | .rnd x nn => encodeXI 0xC#4 x nn
  | .drw x y n => encodeXYN 0xD#4 x y n
  | .skp x => encodeXI 0xE#4 x 0x9E#8
  | .sknp x => encodeXI 0xE#4 x 0xA1#8
  | .ldVxDt x => encodeXI 0xF#4 x 0x07#8
  | .ldVxK x => encodeXI 0xF#4 x 0x0A#8
  | .ldDtVx x => encodeXI 0xF#4 x 0x15#8
  | .ldStVx x => encodeXI 0xF#4 x 0x18#8
  | .addIVx x => encodeXI 0xF#4 x 0x1E#8
  | .ldFVx x => encodeXI 0xF#4 x 0x29#8
  | .ldBVx x => encodeXI 0xF#4 x 0x33#8
  | .ldMiVx x => encodeXI 0xF#4 x 0x55#8
  | .ldVxMi x => encodeXI 0xF#4 x 0x65#8
  | .sys nnn => encodeA 0x0#4 nnn

/-- An instruction's bytes as memory holds them (R47). -/
def encodeBytes (i : Instr) : List Byte := bytesOfWord (encode i)

end Sys2Proof
end

