-- ==== Sys2Proof/Machine/Memory.lean ====
section
/-! DEFINITION. The 4096-byte memory of spec/20_memory.md: the font (R32), what an address reads as before anything is
written to it (R27, R31), and the list of cells that differ from that, in one canonical form. -/

namespace Sys2Proof.Machine

/-- The font table of R32: glyph `d` is the five bytes from `5 * d`, top row first.
UNVERIFIED (log entry 7): the spec took the bytes from general knowledge (G5); unsafe. -/
def fontTable : List Byte :=
  [0xF0, 0x90, 0x90, 0x90, 0xF0] ++ [0x20, 0x60, 0x20, 0x20, 0x70] ++
  [0xF0, 0x10, 0xF0, 0x80, 0xF0] ++ [0xF0, 0x10, 0xF0, 0x10, 0xF0] ++
  [0x90, 0x90, 0xF0, 0x10, 0x10] ++ [0xF0, 0x80, 0xF0, 0x10, 0xF0] ++
  [0xF0, 0x80, 0xF0, 0x90, 0xF0] ++ [0xF0, 0x10, 0x20, 0x40, 0x40] ++
  [0xF0, 0x90, 0xF0, 0x90, 0xF0] ++ [0xF0, 0x90, 0xF0, 0x10, 0xF0] ++
  [0xF0, 0x90, 0xF0, 0x90, 0x90] ++ [0xE0, 0x90, 0xE0, 0x90, 0xE0] ++
  [0xF0, 0x80, 0x80, 0x80, 0xF0] ++ [0xE0, 0x90, 0x90, 0x90, 0xE0] ++
  [0xF0, 0x80, 0xF0, 0x80, 0xF0] ++ [0xF0, 0x80, 0xF0, 0x80, 0x80]

/-- What address `a` holds before anything is written to it, the font at `base`: the font's byte, or 0 (R27).
UNVERIFIED (log entry 11): the zero is the spec's decision D9; unsafe. -/
def unlisted (base a : Nat) : Byte :=
  if base ≤ a then fontTable.getD (a - base) 0 else 0

/-- The cells whose byte is not what `unlisted` says, by rising address (log entry 17). -/
abbrev Memory := List Host.Cell

/-- The byte a list holds for an address, if it holds one. -/
def Memory.find : Memory → Nat → Option Byte
  | [], _ => none
  | (b, v) :: rest, a => if b = a then some v else Memory.find rest a

/-- The byte at an address. -/
def Memory.read (base : Nat) (m : Memory) (a : Nat) : Byte :=
  (Memory.find m a).getD (unlisted base a)

/-- Put a cell at its place by address, replacing the cell of that address. -/
def Memory.insert (a : Nat) (v : Byte) : Memory → Memory
  | [] => [(a, v)]
  | (b, w) :: rest =>
    if a < b then (a, v) :: (b, w) :: rest
    else if a = b then (a, v) :: rest
    else (b, w) :: Memory.insert a v rest

/-- The memory with byte `v` at address `a`: a byte the address reads as unlisted is not listed. -/
def Memory.write (base : Nat) (m : Memory) (a : Nat) (v : Byte) : Memory :=
  if v = unlisted base a then m.filter (fun c => c.1 != a) else Memory.insert a v m

/-- Bytes written from address `a` upward. -/
def Memory.writeAll (base : Nat) : Memory → Nat → List Byte → Memory
  | m, _, [] => m
  | m, a, b :: bs => Memory.writeAll base (Memory.write base m a b) (a + 1) bs

/-- The canonical form: addresses strictly rising and in range (R30), and no cell that says what an unlisted address
reads as. -/
abbrev Memory.wf (base : Nat) (m : Memory) : Prop :=
  m.Pairwise (fun c d => c.1 < d.1) ∧ ∀ c ∈ m, c.1 < 4096 ∧ c.2 ≠ unlisted base c.1

end Sys2Proof.Machine
end

