-- ==== Sys2Proof/Config.lean ====
section
/-! DEFINITION. The configuration record (spec/00_scope.md R5) and the values the spec leaves free. -/

namespace Sys2Proof

/-- The four parameters of R5. `Reset` sets the record and nothing else writes it (R6, R140). -/
structure Config where
  /-- `QUIRK_SHIFT_SRC_VY`: false, the shifts take `V[x]`; true, they take `V[y]`. -/
  shiftSrcVy : Bool
  /-- `QUIRK_KEY_WAIT_RELEASE`: true, `LD_VX_K` also waits for the key's release. -/
  keyWaitRelease : Bool
  /-- `QUIRK_ADD_I_SETS_VF`: true, `ADD_I_VX` writes `VF`. -/
  addISetsVf : Bool
  /-- `FONT_BASE`: the address of the font table's first byte. -/
  fontBase : Nat
  deriving DecidableEq, Repr, Inhabited

/-- The constraint of R5 on `FONT_BASE`: the font lies below the program origin. -/
abbrev Config.Valid (c : Config) : Prop := c.fontBase + 80 ≤ 0x200

/-- `QUIRK_SHIFT_SRC_VY` of the configuration `State.reset` carries. R5 gives it no default, so it has no value here.
DESIGN CHOICE (log entry 4), safe. -/
opaque Config.openShiftSrcVy : Bool

/-- The defaults R5 suggests; the open parameter stays open.
DESIGN CHOICE (log entry 5): that `State.reset` carries them, unsafe for a claim about `State.reset` alone. -/
def Config.default : Config where
  shiftSrcVy := Config.openShiftSrcVy
  keyWaitRelease := false
  addISetsVf := false
  fontBase := 0x050

/-- `RandByte()` (R66): the byte the random source answers at the `k`th draw. A free value under no law: nothing is known
of it, nor of how two of them relate.
DESIGN CHOICE (log entry 3), safe. -/
opaque Config.randByte : Nat → Byte

end Sys2Proof
end

