-- ==== Sys2Proof/Machine/State.lean ====
section
/-! DEFINITION. The state of CHIP-8 CORE as plain data (spec/10_state.md), the reasons a step stops, the host's
operations (spec/40_cycle_and_interfaces.md R60), and the state after reset. -/

namespace Sys2Proof.Machine

/-- The four fatal conditions of spec/60_exceptions.md R120, with the information each records. Each ends the cycle; the
instance can then only be reset (R126, R128). All are the spec's own outcome, safe. -/
inductive Fault where
  /-- Raised by the fetch (`addr` is the `pc` of the fetch) and by `DRW`, `LD_B_VX`, `LD_MI_VX`, `LD_VX_MI` (`addr` is the
  lowest address above 4095 the operation needs), R121. Safe. -/
  | memoryFault (addr : Nat)
  /-- Raised by `CALL` when the stack holds 16 entries, R122. Safe. -/
  | stackOverflow
  /-- Raised by `RET` when the stack is empty, R123. Safe. -/
  | stackUnderflow
  /-- Raised by decoding a word that matches no pattern, and by `SYS`, with the word, R124. Safe. -/
  | invalidOpcode (op : Word)
  deriving DecidableEq, Repr

/-- Operations the machine does not accept. -/
inductive Refusal where
  /-- Raised by an arm of `exec` whose instruction has no meaning yet; no arm raises it. Safe. -/
  | notModelled (mnemonic : String)
  /-- Raised by every operation but `Reset` on an instance whose `FAULT` latch is set; `f` is the recorded fault, which
  `Cycle` reports again (R67, R128). Safe: the spec's own refusal. -/
  | faultedInstance (f : Fault)
  /-- Raised by `Reset` with a ROM longer than 3584 bytes (R141). Safe: the spec's own refusal. -/
  | romTooLong (length : Nat)
  /-- Raised by `Reset` with `FONT_BASE + 80` above 0x200 (R140). Safe: the spec's own refusal. -/
  | fontBaseTooHigh (fontBase : Nat)
  deriving DecidableEq, Repr

/-- What the host can do to the block, each one atomic transition (R60, R63). -/
inductive Operation where
  /-- `Reset(config, rom)`, the loader (R140). -/
  | reset (config : Config) (rom : List Byte)
  /-- `Cycle()`, the timing loop (R61). -/
  | cycle
  /-- `TickDelay()`, the 60 Hz clock (R131). -/
  | tickDelay
  /-- `TickSound()`, the 60 Hz clock (R131). -/
  | tickSound
  /-- `TickTimers()`, the combined entry point (R131). -/
  | tickTimers
  /-- `SetKeys(k)`, the input collaborator (R64). -/
  | setKeys (keys : Keys)
  /-- `ReadFramebuffer()`, the renderer (R65). -/
  | readFramebuffer
  /-- `ReadSoundTimer()`, the audio collaborator (R65). -/
  | readSoundTimer
  /-- `ReadDelayTimer()` (R65). -/
  | readDelayTimer
  deriving DecidableEq, Repr

/-- What an operation returns to its caller (the result column of R60's table); a fault and a refusal are outcomes of the
step instead. -/
inductive Reply where
  /-- No value: `Reset`, the ticks, `SetKeys`. -/
  | done
  /-- `ok(fb_changed)` of a successful cycle (R62). -/
  | ok (fbChanged : Bool)
  /-- The framebuffer (R65). -/
  | pixels (fb : Framebuffer)
  /-- A timer's value (R65). -/
  | timer (value : Byte)
  deriving DecidableEq, Repr, Inhabited

/-- The whole state. The last three fields are the model's own: the host's side of the interface as plain data (log entries
1, 2, 3). -/
structure State where
  /-- `V[0..15]` (R10); `VF` is `V[15]` (R11). -/
  v : Vector Byte 16
  /-- `I` (R12). -/
  i : Word
  /-- `pc` (R13): between cycles the address of the next instruction, during execution that address plus 2. -/
  pc : Word
  /-- `stack[0..15]` (R14). -/
  stack : Vector Word 16
  /-- `SP`, the number of entries in use (R14). -/
  sp : Fin 17
  /-- `DT` (R15). -/
  dt : Byte
  /-- `ST` (R16). -/
  st : Byte
  /-- `fb` (R17). -/
  fb : Framebuffer
  /-- `key` (R18). -/
  key : Keys
  /-- `mem` (R19, R30): the listed cells; see `Memory.read`. -/
  mem : List Host.Cell
  /-- `FAULT` (R20). -/
  fault : Option Fault
  /-- `KEYWAIT` (R21). -/
  keyWait : Option Key
  /-- The configuration record (R5, R6). -/
  config : Config
  /-- The operations the host performs next, first one first; when it is empty the next operation is a `Cycle`.
  DESIGN CHOICE (log entry 1), safe. -/
  schedule : List Operation
  /-- What the last operation returned (R62, R65). DESIGN CHOICE (log entry 2), safe. -/
  reply : Reply
  /-- How many free values have been taken; it indexes `Config.randByte` and `Config.remains`.
  DESIGN CHOICE (log entry 3), safe. -/
  draws : Nat
  deriving DecidableEq, Repr, Inhabited

/-- The state `Reset(config, [])` leaves (R23 to R29, R140), with nothing scheduled, returned or drawn. -/
def State.fresh (config : Config) : State where
  v := Vector.replicate 16 0
  i := 0
  pc := 0x200
  stack := Vector.replicate 16 0
  sp := 0
  dt := 0
  st := 0
  fb := Vector.replicate 32 0
  key := Vector.replicate 16 false
  mem := []
  fault := none
  keyWait := none
  config := config
  schedule := []
  reply := .done
  draws := 0

/-- The machine right after reset: `Reset` with the configuration of `Config.default` and an empty ROM (log entries 5, 6). -/
def State.reset : State := State.fresh Config.default

end Sys2Proof.Machine
end

