-- ==== Sys2Proof/Machine/Ops.lean ====
section
/-! DEFINITION. The named operations over registers, memory, stack, framebuffer and keys; how a cycle ends; raising a
fault and latching it. -/

namespace Sys2Proof

/-- What is left of an instance after a fault (spec/60_exceptions.md R127, spec/93_implementation_defined.md U7): any
value, a free value under no law.
DESIGN CHOICE (log entry 9), safe. -/
opaque Config.remains : Nat → Machine.State

namespace Machine

/-- What running an instruction answers. -/
abbrev Result := Host.Outcome State Fault Refusal

/-! Registers (spec/10_state.md R10 to R16). -/

/-- `V[x]`. -/
def State.getV (s : State) (x : Reg) : Byte := s.v[x]

/-- `V[x] <- b`. -/
def State.setV (s : State) (x : Reg) (b : Byte) : State := { s with v := s.v.set x b }

/-- `I <- w`. -/
def State.setI (s : State) (w : Word) : State := { s with i := w }

/-- `pc <- w`. -/
def State.setPc (s : State) (w : Word) : State := { s with pc := w }

/-- `DT <- b`. -/
def State.setDt (s : State) (b : Byte) : State := { s with dt := b }

/-- `ST <- b`. -/
def State.setSt (s : State) (b : Byte) : State := { s with st := b }

/-- `KEYWAIT <- k`. -/
def State.setKeyWait (s : State) (k : Option Key) : State := { s with keyWait := k }

/-- A skip: the next instruction's two bytes are passed over when `c` holds (R13). -/
def State.skipIf (s : State) (c : Bool) : State := if c then s.setPc (s.pc + 2) else s

/-- The rewind by which `LD_VX_K` runs again at the next cycle (R13, R112). -/
def State.rewind (s : State) : State := s.setPc (s.pc - 2)

/-! The call stack (R14): `SP` counts the entries in use, and a popped entry keeps its value. -/

/-- `stack[SP] <- a`, then `SP <- SP + 1`. -/
def State.push (s : State) (a : Word) (h : s.sp.val < 16) : State :=
  { s with stack := s.stack.set s.sp.val a, sp := ⟨s.sp.val + 1, Nat.succ_lt_succ h⟩ }

/-- The entry a pop reads: `stack[SP - 1]`. -/
def State.top (s : State) (h : 0 < s.sp.val) : Word :=
  s.stack[s.sp.val - 1]'(Nat.sub_one_lt_of_le h (Nat.le_of_lt_succ s.sp.isLt))

/-- `SP <- SP - 1`. -/
def State.drop (s : State) : State :=
  { s with sp := ⟨s.sp.val - 1, Nat.lt_of_le_of_lt (Nat.sub_le _ _) s.sp.isLt⟩ }

/-! Memory (spec/20_memory.md). Addresses are natural numbers, never reduced (R40). -/

/-- `mem[a]`. -/
def State.byteAt (s : State) (a : Nat) : Byte := Memory.read s.config.fontBase s.mem a

/-- The `n` bytes from `a` upward. -/
def State.bytesAt (s : State) (a n : Nat) : List Byte := (List.range n).map fun k => s.byteAt (a + k)

/-- The bytes `bs` stored from `a` upward. -/
def State.putBytes (s : State) (a : Nat) (bs : List Byte) : State :=
  { s with mem := Memory.writeAll s.config.fontBase s.mem a bs }

/-- The range check of an access to the `n` bytes from `a` (R33, R121): the fault names the lowest address above 4095. -/
def rangeFault (a n : Nat) : Option Fault :=
  if 0 < n ∧ a + n - 1 > 4095 then some (.memoryFault (max a 4096)) else none

/-! The framebuffer (R17). -/

/-- `fb[row][col]`. -/
def State.pixel (s : State) (row : Fin 32) (col : Fin 64) : Bool := s.fb[row].getLsbD col.val

/-- `fb <- f`. -/
def State.setFb (s : State) (f : Framebuffer) : State := { s with fb := f }

/-! Keys (R18). -/

/-- `key[k]`. -/
def State.pressed (s : State) (k : Key) : Bool := s.key[k]

/-- The least pressed key, if a key is pressed (spec/45_keypad_and_timers.md R112). -/
def State.leastPressed (s : State) : Option Key := (List.finRange 16).find? fun k => s.pressed k

/-- `key <- k`, the whole snapshot (spec/40_cycle_and_interfaces.md R64). -/
def State.setKey (s : State) (k : Keys) : State := { s with key := k }

/-! The random input (spec/40_cycle_and_interfaces.md R66). -/

/-- The byte `RandByte()` answers now. -/
def State.randByte (s : State) : Byte := Config.randByte s.draws

/-- That byte is consumed. -/
def State.drawn (s : State) : State := { s with draws := s.draws + 1 }

/-! How an operation ends. -/

/-- What the operation returns to its caller. -/
def State.setReply (s : State) (r : Reply) : State := { s with reply := r }

/-- `ok(fb_changed)`: the instruction is done (R61, R62). -/
def finish (fbChanged : Bool) (s : State) : Result := .next (s.setReply (.ok fbChanged))

/-- `raise f` (spec/60_exceptions.md R126): the cycle ends with the fault, there is no handler, no saved register and no
mode. What the instance is afterwards is `latchFault`. -/
def raiseFault (f : Fault) : Result := .fault f

/-- `FAULT <- f` (R20, R126): the instance after a cycle that ended with `f`. Every other element of the machine's state is
unspecified (R127, U7): a free value. The configuration is fixed (R6), and the host's schedule is the host's. -/
def latchFault (f : Fault) (s : State) : State :=
  { Config.remains s.draws with
    fault := some f, config := s.config, schedule := s.schedule, reply := .done, draws := s.draws + 1 }

/-- Go on only if the `n` bytes from `I` upward are all in memory; checked before anything is written (R127). -/
def ifInRange (s : State) (n : Nat) (r : Result) : Result :=
  match rangeFault s.i.toNat n with
  | some f => raiseFault f
  | none => r

/-- `Fetch()` (spec/20_memory.md R34): the word at `pc`, and the state with `pc` advanced past it. -/
def fetch (s : State) : Except Fault (Word × State) :=
  if s.pc.toNat + 1 > 4095 then .error (.memoryFault s.pc.toNat)
  else .ok (wordOfBytes (s.byteAt s.pc.toNat) (s.byteAt (s.pc.toNat + 1)), s.setPc (s.pc + 2))

end Machine

end Sys2Proof
end

