-- ==== Sys2Proof/Machine/Flags.lean ====
section
/-! DEFINITION. The flag register `VF` (spec/10_state.md R11) and every flag the spec computes. Each is computed from
operands read before anything is written (spec/42_load_alu_random.md R92). -/

namespace Sys2Proof.Machine

/-- The flag register is general register 15 (R11). -/
def VF : Reg := 15

/-- `V[15] <- 1` or `0`. -/
def State.setFlag (s : State) (f : Bool) : State := s.setV VF (if f then 1 else 0)

/-- Carry of an addition (R86, R93). -/
def carry (a b : Byte) : Bool := decide (a.toNat + b.toNat > 255)

/-- Not-borrow of `a - b` (R87, R93): equal operands do not borrow. -/
def notBorrow (a b : Byte) : Bool := decide (a.toNat ≥ b.toNat)

/-- The bit a shift right drops (R88). -/
def lowBit (b : Byte) : Bool := b.getLsbD 0

/-- The bit a shift left drops (R90). -/
def highBit (b : Byte) : Bool := b.getLsbD 7

/-- `I + V[x]` leaves the 12-bit address range (spec/43_index_and_memory.md R96).
UNVERIFIED (log entry 7): the threshold is the spec's general knowledge (G7); unsafe. -/
def indexOverflow (i : Word) (a : Byte) : Bool := decide (i.toNat + a.toNat > 0x0FFF)

/-- `ADD_I_VX` writes `VF` only under `QUIRK_ADD_I_SETS_VF` (R96). -/
def State.setIndexFlag (s : State) (f : Bool) : State := if s.config.addISetsVf then s.setFlag f else s

end Sys2Proof.Machine
end

