-- ==== Sys2Proof/Machine/Operands.lean ====
section
/-! DEFINITION. The operand forms of spec/30_encoding.md R50 that are more than a field of the instruction. -/

namespace Sys2Proof.Machine

/-- A 12-bit address as `pc` or `I` takes it: zero-extended (R50). -/
def addressOperand (nnn : BitVec 12) : Word := nnn.setWidth 16

/-- A byte added to an address: zero-extended. -/
def offsetOperand (b : Byte) : Word := b.setWidth 16

/-- The low nibble of `V[x]`: a key's index or a digit, always valid (R97, R110). -/
def State.lowNibble (s : State) (x : Reg) : Fin 16 := ((s.getV x).extractLsb' 0 4).toFin

/-- The byte the shifts shift: `V[y]` or `V[x]` by `QUIRK_SHIFT_SRC_VY` (spec/42_load_alu_random.md R88, R90). -/
def State.shiftSource (s : State) (x y : Reg) : Byte := if s.config.shiftSrcVy then s.getV y else s.getV x

/-- `V[0], ..., V[x]`, the operands of `LD_MI_VX` (spec/43_index_and_memory.md R99). -/
def State.regsUpTo (s : State) (x : Reg) : List Byte := s.v.toList.take (x.val + 1)

/-- `V[r] <- mem[I + r]` for `r` in `0..x`, the registers above `x` unchanged (R100). -/
def State.loadRegs (s : State) (x : Reg) : State :=
  { s with v := Vector.ofFn fun r : Fin 16 => if r ≤ x then s.byteAt (s.i.toNat + r.val) else s.getV r }

/-- The address of the glyph of digit `d` (R97). -/
def State.glyphAddress (s : State) (d : Fin 16) : Word := BitVec.ofNat 16 (s.config.fontBase + 5 * d.val)

/-- The decimal digits of a byte: hundreds, tens, ones (R98). -/
def decimalDigits (b : Byte) : List Byte :=
  [BitVec.ofNat 8 (b.toNat / 100), BitVec.ofNat 8 (b.toNat / 10 % 10), BitVec.ofNat 8 (b.toNat % 10)]

/-- The column a sprite starts in: `V[x] mod 64` (spec/44_display.md R103, R106). -/
def State.startColumn (s : State) (x : Reg) : Nat := (s.getV x).toNat % 64

/-- The row a sprite starts in: `V[y] mod 32` (R103, R106). -/
def State.startRow (s : State) (y : Reg) : Nat := (s.getV y).toNat % 32

end Sys2Proof.Machine
end

