-- ==== Sys2Proof/Machine/Alu.lean ====
section
/-! DEFINITION. The load, arithmetic, logic, shift and random instructions of spec/42_load_alu_random.md. Operands are read
first, the result is written, and the flag last (R92). -/

namespace Sys2Proof.Machine

/-- `LD Vx, NN` (R80). -/
def execLdVxNn (x : Reg) (nn : Byte) (s : State) : Result := finish false (s.setV x nn)

/-- `ADD Vx, NN` (R81): modulo 256, no flag. -/
def execAddVxNn (x : Reg) (nn : Byte) (s : State) : Result := finish false (s.setV x (s.getV x + nn))

/-- `LD Vx, Vy` (R82). -/
def execLdVxVy (x y : Reg) (s : State) : Result := finish false (s.setV x (s.getV y))

/-- `OR Vx, Vy` (R83). -/
def execOrVxVy (x y : Reg) (s : State) : Result := finish false (s.setV x (s.getV x ||| s.getV y))

/-- `AND Vx, Vy` (R84). -/
def execAndVxVy (x y : Reg) (s : State) : Result := finish false (s.setV x (s.getV x &&& s.getV y))

/-- `XOR Vx, Vy` (R85). -/
def execXorVxVy (x y : Reg) (s : State) : Result := finish false (s.setV x (s.getV x ^^^ s.getV y))

/-- `ADD Vx, Vy` (R86). -/
def execAddVxVy (x y : Reg) (s : State) : Result :=
  let a := s.getV x
  let b := s.getV y
  finish false ((s.setV x (a + b)).setFlag (carry a b))

/-- `SUB Vx, Vy` (R87). -/
def execSubVxVy (x y : Reg) (s : State) : Result :=
  let a := s.getV x
  let b := s.getV y
  finish false ((s.setV x (a - b)).setFlag (notBorrow a b))

/-- `SHR Vx, Vy` (R88). -/
def execShrVxVy (x y : Reg) (s : State) : Result :=
  let src := s.shiftSource x y
  finish false ((s.setV x (src >>> 1)).setFlag (lowBit src))

/-- `SUBN Vx, Vy` (R89). -/
def execSubnVxVy (x y : Reg) (s : State) : Result :=
  let a := s.getV x
  let b := s.getV y
  finish false ((s.setV x (b - a)).setFlag (notBorrow b a))

/-- `SHL Vx, Vy` (R90). -/
def execShlVxVy (x y : Reg) (s : State) : Result :=
  let src := s.shiftSource x y
  finish false ((s.setV x (src <<< 1)).setFlag (highBit src))

/-- `RND Vx, NN` (R91): one free byte is consumed, masked by `nn`. -/
def execRnd (x : Reg) (nn : Byte) (s : State) : Result := finish false (s.drawn.setV x (s.randByte &&& nn))

end Sys2Proof.Machine
end

