-- ==== Sys2Proof/Machine/Control.lean ====
section
/-! DEFINITION. The control-flow instructions of spec/41_control_flow.md. `pc` is the instruction's address plus 2. -/

namespace Sys2Proof.Machine

/-- `SYS NNN` (R70): always the fault, with the 16-bit word. The spec decides for "fatal" where its source says "no-ops or
fatal" (D2; log entry 8), safe. -/
def execSys (nnn : BitVec 12) (_ : State) : Result := raiseFault (.invalidOpcode (addressOperand nnn))

/-- `RET` (R71). -/
def execRet (s : State) : Result :=
  if h : 0 < s.sp.val then finish false (s.drop.setPc (s.top h)) else raiseFault .stackUnderflow

/-- `JP NNN` (R72). -/
def execJp (nnn : BitVec 12) (s : State) : Result := finish false (s.setPc (addressOperand nnn))

/-- `CALL NNN` (R73): what is pushed is the address of the `CALL` plus 2. -/
def execCall (nnn : BitVec 12) (s : State) : Result :=
  if h : s.sp.val < 16 then finish false ((s.push s.pc h).setPc (addressOperand nnn)) else raiseFault .stackOverflow

/-- `SE Vx, NN` (R74). -/
def execSeVxNn (x : Reg) (nn : Byte) (s : State) : Result := finish false (s.skipIf (s.getV x == nn))

/-- `SNE Vx, NN` (R75). -/
def execSneVxNn (x : Reg) (nn : Byte) (s : State) : Result := finish false (s.skipIf (s.getV x != nn))

/-- `SE Vx, Vy` (R76). -/
def execSeVxVy (x y : Reg) (s : State) : Result := finish false (s.skipIf (s.getV x == s.getV y))

/-- `SNE Vx, Vy` (R77). -/
def execSneVxVy (x y : Reg) (s : State) : Result := finish false (s.skipIf (s.getV x != s.getV y))

/-- `JP V0, NNN` (R78): the sum is at most 0x10FE and is not masked. -/
def execJpV0 (nnn : BitVec 12) (s : State) : Result :=
  finish false (s.setPc (offsetOperand (s.getV 0) + addressOperand nnn))

end Sys2Proof.Machine
end

