-- ==== Sys2Proof/Machine/Blitter.lean ====
section
/-! DEFINITION. The Display Blitter of spec/44_display.md as the pure function of R108: from the framebuffer, the sprite's
bytes and the start coordinate to the framebuffer after and the collision bit. -/

namespace Sys2Proof.Machine

/-- One sprite byte laid on a row from column `x0`: bit `7 - c` of the byte at column `x0 + c`, columns above 63 dropped
(R104, R106).
UNVERIFIED (log entry 7): the bit order is the spec's general knowledge (G6); unsafe. -/
def spriteRow (b : Byte) (x0 : Nat) : PixelRow := (b.reverse.setWidth 64) <<< x0

/-- What the sprite adds to row `row`: its byte `row - y0` when there is one (R108). -/
def spriteMask (rows : List Byte) (x0 y0 row : Nat) : PixelRow :=
  if y0 ≤ row then
    match rows[row - y0]? with
    | some b => spriteRow b x0
    | none => 0
  else 0

/-- `fb'[py][px] = fb[py][px] xor bit(px, py)` (R108). Rows below row 31 are dropped (R106). -/
def blit (fb : Framebuffer) (rows : List Byte) (x0 y0 : Nat) : Framebuffer :=
  Vector.ofFn fun r : Fin 32 => fb[r] ^^^ spriteMask rows x0 y0 r.val

/-- Some cell is set and is XORed with 1 (R105, R108). -/
def collides (fb : Framebuffer) (rows : List Byte) (x0 y0 : Nat) : Bool :=
  (List.finRange 32).any fun r => fb[r] &&& spriteMask rows x0 y0 r.val != 0

end Sys2Proof.Machine
end

