-- ==== Sys2Proof/Machine/Display.lean ====
section
/-! DEFINITION. The display instructions of spec/44_display.md. Both report a framebuffer change (R62). -/

namespace Sys2Proof.Machine

/-- `CLS` (R102). -/
def execCls (s : State) : Result := finish true (s.setFb (Vector.replicate 32 0))

/-- `DRW Vx, Vy, N` (R103): `V[x]` and `V[y]` are read before `VF` is written; the range check covers all `n` bytes (R106)
and none when `n` is 0 (R107). -/
def execDrw (x y : Reg) (n : BitVec 4) (s : State) : Result :=
  let rows := s.bytesAt s.i.toNat n.toNat
  let x0 := s.startColumn x
  let y0 := s.startRow y
  ifInRange s n.toNat (finish true ((s.setFb (blit s.fb rows x0 y0)).setFlag (collides s.fb rows x0 y0)))

end Sys2Proof.Machine
end

