-- ==== Sys2Proof/Machine/Index.lean ====
section
/-! DEFINITION. The index-register and memory instructions of spec/43_index_and_memory.md. No memory access changes `I`
(R101). -/

namespace Sys2Proof.Machine

/-- `LD I, NNN` (R95). -/
def execLdINnn (nnn : BitVec 12) (s : State) : Result := finish false (s.setI (addressOperand nnn))

/-- `ADD I, Vx` (R96): 16-bit wrap, `V[x]` read before the flag is written. -/
def execAddIVx (x : Reg) (s : State) : Result :=
  let a := s.getV x
  finish false ((s.setI (s.i + offsetOperand a)).setIndexFlag (indexOverflow s.i a))

/-- `LD F, Vx` (R97). -/
def execLdFVx (x : Reg) (s : State) : Result := finish false (s.setI (s.glyphAddress (s.lowNibble x)))

/-- `LD B, Vx` (R98). -/
def execLdBVx (x : Reg) (s : State) : Result :=
  ifInRange s 3 (finish false (s.putBytes s.i.toNat (decimalDigits (s.getV x))))

/-- `LD [I], Vx` (R99). -/
def execLdMiVx (x : Reg) (s : State) : Result :=
  ifInRange s (x.val + 1) (finish false (s.putBytes s.i.toNat (s.regsUpTo x)))

/-- `LD Vx, [I]` (R100). -/
def execLdVxMi (x : Reg) (s : State) : Result := ifInRange s (x.val + 1) (finish false (s.loadRegs x))

end Sys2Proof.Machine
end

