-- ==== Sys2Proof/Machine/Keypad.lean ====
section
/-! DEFINITION. The keypad and timer instructions of spec/45_keypad_and_timers.md. -/

namespace Sys2Proof.Machine

/-- `SKP Vx` (R110). -/
def execSkp (x : Reg) (s : State) : Result := finish false (s.skipIf (s.pressed (s.lowNibble x)))

/-- `SKNP Vx` (R111). -/
def execSknp (x : Reg) (s : State) : Result := finish false (s.skipIf (!s.pressed (s.lowNibble x)))

/-- `V[x] <- k` for a key `k` (R112: the value is 0..15). -/
def State.setKeyV (s : State) (x : Reg) (k : Key) : State := s.setV x (BitVec.ofNat 8 k.val)

/-- R112 with `QUIRK_KEY_WAIT_RELEASE` false: done as soon as a key is pressed. -/
def State.waitPress (s : State) (x : Reg) : State :=
  match s.leastPressed with
  | some k => s.setKeyV x k
  | none => s.rewind

/-- R112 with `QUIRK_KEY_WAIT_RELEASE` true: latch a pressed key, then wait for its release. -/
def State.waitRelease (s : State) (x : Reg) : State :=
  match s.keyWait with
  | none =>
    match s.leastPressed with
    | some k => (s.setKeyWait (some k)).rewind
    | none => s.rewind
  | some k => if s.pressed k then s.rewind else (s.setKeyV x k).setKeyWait none

/-- `LD Vx, K` (R112). -/
def execLdVxK (x : Reg) (s : State) : Result :=
  finish false (if s.config.keyWaitRelease then s.waitRelease x else s.waitPress x)

/-- `LD Vx, DT` (R113). -/
def execLdVxDt (x : Reg) (s : State) : Result := finish false (s.setV x s.dt)

/-- `LD DT, Vx` (R114). -/
def execLdDtVx (x : Reg) (s : State) : Result := finish false (s.setDt (s.getV x))

/-- `LD ST, Vx` (R115). -/
def execLdStVx (x : Reg) (s : State) : Result := finish false (s.setSt (s.getV x))

end Sys2Proof.Machine
end

