-- ==== Sys2Proof/Machine/HostOps.lean ====
section
/-! DEFINITION. The operations the host performs on the block (spec/40_cycle_and_interfaces.md R60 to R67), `Reset`
(spec/70_reset_and_hazards.md R140), the timer ticks (spec/60_exceptions.md R131), and the output signals (R69, R132). -/

namespace Sys2Proof.Machine

/-- Every operation but `Reset` is refused once `FAULT` is set (R67, R128). -/
def unlessFaulted (s : State) (r : Result) : Result :=
  match s.fault with
  | some f => .refused (.faultedInstance f)
  | none => r

/-- An operation that returns no value. -/
def done (s : State) : Result := .next (s.setReply .done)

/-- `Cycle()` (R61): fetch, decode, execute, in that order (R125). -/
def cycle (s : State) : Result :=
  unlessFaulted s
    (match fetch s with
    | .error f => raiseFault f
    | .ok (op, t) =>
      match decode op with
      | .error _ => raiseFault (.invalidOpcode op)
      | .ok i => exec i t)

/-- A timer's value after a tick: one less, never below zero (R131). -/
def ticked (b : Byte) : Byte := if b = 0 then 0 else b - 1

/-- `TickDelay()` (R131). -/
def tickDelay (s : State) : Result := unlessFaulted s (done (s.setDt (ticked s.dt)))

/-- `TickSound()` (R131). -/
def tickSound (s : State) : Result := unlessFaulted s (done (s.setSt (ticked s.st)))

/-- `TickTimers()`: the two in sequence (R131). -/
def tickTimers (s : State) : Result :=
  unlessFaulted s (done ((s.setDt (ticked s.dt)).setSt (ticked s.st)))

/-- `SetKeys(k)` (R64): the whole snapshot at once. -/
def setKeys (k : Keys) (s : State) : Result := unlessFaulted s (done (s.setKey k))

/-- `ReadFramebuffer()` (R65). -/
def readFramebuffer (s : State) : Result := unlessFaulted s (.next (s.setReply (.pixels s.fb)))

/-- `ReadSoundTimer()` (R65). -/
def readSoundTimer (s : State) : Result := unlessFaulted s (.next (s.setReply (.timer s.st)))

/-- `ReadDelayTimer()` (R65). -/
def readDelayTimer (s : State) : Result := unlessFaulted s (.next (s.setReply (.timer s.dt)))

/-- The longest ROM that fits above the program origin (R141). -/
def maxRomBytes : Nat := 3584

/-- `Reset(config, rom)` (R140, R141), accepted by a faulted instance too (R128). The ROM is copied to 0x200 and up. What
the host still has scheduled and the random source are outside the block and go on as they were.
DESIGN CHOICE (log entry 13), safe. -/
def resetWith (config : Config) (rom : List Byte) (s : State) : Result :=
  if rom.length > maxRomBytes then .refused (.romTooLong rom.length)
  else if config.Valid then
    .next { (State.fresh config).putBytes 0x200 rom with schedule := s.schedule, draws := s.draws }
  else .refused (.fontBaseTooHigh config.fontBase)

/-- One host operation, one atomic transition (R63). -/
def perform (op : Operation) (s : State) : Result :=
  match op with
  | .reset config rom => resetWith config rom s
  | .cycle => cycle s
  | .tickDelay => tickDelay s
  | .tickSound => tickSound s
  | .tickTimers => tickTimers s
  | .setKeys k => setKeys k s
  | .readFramebuffer => readFramebuffer s
  | .readSoundTimer => readSoundTimer s
  | .readDelayTimer => readDelayTimer s

/-- The operation the host performs next (log entry 1). -/
def State.nextOperation (s : State) : Operation :=
  match s.schedule with
  | [] => .cycle
  | op :: _ => op

/-- That operation leaves the host's list. -/
def State.dequeue (s : State) : State := { s with schedule := s.schedule.tail }

/-- The output signal `tone` (R69, R132). -/
def State.tone (s : State) : Bool := s.st != 0

/-- The code of a fault (R120). -/
def Fault.code : Fault → Nat
  | .memoryFault _ => 1
  | .stackOverflow => 2
  | .stackUnderflow => 3
  | .invalidOpcode _ => 4

/-- The output signal `fault_kind` (R69, R120): 0 means no fault. -/
def State.faultKind (s : State) : Nat :=
  match s.fault with
  | none => 0
  | some f => f.code

end Sys2Proof.Machine
end

