-- ==== Sys2Proof/Machine/Step.lean ====
section
/-! DEFINITION. One step of the machine: the next host operation, which is a `Cycle` unless the host has scheduled
another (spec/40_cycle_and_interfaces.md R63). -/

namespace Sys2Proof.Machine

/-- One host operation is one step (R63). -/
def step (s : State) : Host.Outcome State Fault Refusal := perform s.nextOperation s.dequeue

/-- `s` with the instruction `w` at `pc`, as if it had been loaded there, and nothing between it and the next step: no
operation scheduled before it and no fault latched (log entry 6). -/
def State.withFetchWord (s : State) (nbits w : Nat) : State :=
  { s.putBytes s.pc.toNat (bytesOfWord (BitVec.ofNat 16 (w % 2 ^ nbits))) with schedule := [], fault := none }

end Sys2Proof.Machine
end

