-- ==== Sys2Proof/Machine/Instance.lean ====
section
/-! DEFINITION. The life of one instance across a fault (spec/60_exceptions.md R126 to R128): a step that ends with a fault
latches it, a refused operation changes nothing, and a later `Reset` starts over. -/

namespace Sys2Proof.Machine

/-- The instance after its next operation, whatever the operation's outcome.
DESIGN CHOICE (log entry 12): a refused `Reset` leaves the instance as it was, unsafe. -/
def State.after (s : State) : State :=
  match step s with
  | .next t => t
  | .fault f => latchFault f s.dequeue
  | .refused _ => s.dequeue

/-- The instance after its next `k` operations. -/
def State.afterMany : Nat → State → State
  | 0, s => s
  | k + 1, s => State.afterMany k s.after

end Sys2Proof.Machine
end

