-- ==== Sys2Proof/Safety.lean ====
section
/-! DEFINITION. The terms claims are made in: safe runs, the invariants, the stopped program of
spec/40_cycle_and_interfaces.md R68, and what an instruction leaves unchanged. -/

namespace Sys2Proof.Machine

/-- The next `k` steps all answer a next state: no fault and no refusal. -/
def State.SafeFor (k : Nat) (s : State) : Prop := ∃ t, Host.Core.run Sys2Proof.core k s = .next t

/-- The word at `pc` (R34), for a `pc` the fetch accepts. -/
def State.nextWord (s : State) : Word := wordOfBytes (s.byteAt s.pc.toNat) (s.byteAt (s.pc.toNat + 1))

/-- The program has stopped at `a` (R68): `pc` is `a`, nothing is latched, and the word at `a` is `JP a`. The word lies
in memory, so `a` is at most 4094. -/
structure State.StoppedAt (s : State) (a : Nat) : Prop where
  pc : s.pc.toNat = a
  inMemory : a ≤ 4094
  fault : s.fault = none
  keyWait : s.keyWait = none
  word : s.nextWord = BitVec.ofNat 16 (0x1000 + a)

/-- What every step keeps. The configuration is one `Reset` accepts (R140), the memory is in canonical form, `pc` and
the stack hold only the values R13 allows, and `KEYWAIT` is unused while its quirk is off (R21). -/
structure State.Inv (s : State) : Prop where
  config : s.config.Valid
  memory : Memory.wf s.config.fontBase s.mem
  pc : s.pc.toNat ≤ 0x10FE
  stack : ∀ k : Fin 16, s.stack[k].toNat ≤ 4096
  keyWait : s.config.keyWaitRelease = false → s.keyWait = none

/-- While `KEYWAIT` holds a key, its quirk is on (R21) and the next instruction is the `LD_VX_K` that latched it (R112). -/
def State.WaitInv (s : State) : Prop :=
  s.keyWait ≠ none →
    s.config.keyWaitRelease = true ∧ s.pc.toNat ≤ 4094 ∧ ∃ x, decode s.nextWord = .ok (.ldVxK x)

/-- The word `g x y n` by its four hex digits (R48, R51). -/
def wordXYN (g : Nat) (x y : Reg) (n : Nat) : Word := BitVec.ofNat 16 (0x1000 * g + 0x100 * x.val + 0x10 * y.val + n)

/-- The word of group `g`, register `x` and trailing byte `nn` (R48, R51). -/
def wordXI (g : Nat) (x : Reg) (nn : Nat) : Word := BitVec.ofNat 16 (0x1000 * g + 0x100 * x.val + nn)

/-- The word of group `g` and address `nnn` (R48, R51). -/
def wordA (g : Nat) (nnn : BitVec 12) : Word := BitVec.ofNat 16 (0x1000 * g + nnn.toNat)

/-- The pieces of the state but for `reply`, which every operation writes. -/
inductive Part where
  | v | i | pc | stack | sp | dt | st | fb | key | mem | fault | keyWait | config | schedule | draws
  deriving DecidableEq, Repr

/-- A piece is the same in two states. Memory is compared byte by byte, through the model's read of one byte. -/
def Part.Same (p : Part) (s t : State) : Prop :=
  match p with
  | .v => ∀ r, t.getV r = s.getV r
  | .i => t.i = s.i
  | .pc => t.pc = s.pc
  | .stack => t.stack = s.stack
  | .sp => t.sp = s.sp
  | .dt => t.dt = s.dt
  | .st => t.st = s.st
  | .fb => t.fb = s.fb
  | .key => t.key = s.key
  | .mem => ∀ a, t.byteAt a = s.byteAt a
  | .fault => t.fault = s.fault
  | .keyWait => t.keyWait = s.keyWait
  | .config => t.config = s.config
  | .schedule => t.schedule = s.schedule
  | .draws => t.draws = s.draws

/-- Nothing but the pieces in the list differs between `s` and `t`. -/
def FrameExcept (ps : List Part) (s t : State) : Prop := ∀ p : Part, p ∉ ps → p.Same s t

end Sys2Proof.Machine
end

