-- ==== Sys2Proof/Certificates/Slice0/Obligations.lean ====
section
/-! DEFINITION. The statements about the model, each formalising rules of spec/ (OBLIGATIONS.json names them), and the few
definitions they are written with. `exec` is given the state after the fetch, whose `pc` is the instruction's address
plus 2 (R13). -/

open Sys2Proof Sys2Proof.Machine

/-! ## Encoding -/

/-- Every well-formed instruction decodes from its own word, with every operand at every value (R51, R52). -/
def Obligations.DecodeOfEncode : Prop := ∀ i : Instr, i.wellFormed = true → decode (encode i) = .ok i

/-- A word that decodes has one meaning: it is the word of the instruction read from it, which is well-formed. -/
def Obligations.EncodeOfDecode : Prop := ∀ (op : Word) (i : Instr), decode op = .ok i → encode i = op ∧ i.wellFormed = true

/-- The words with no matching pattern are exactly those of R53's table (D3), and the `SYS` slot is group 0 without the
words of `CLS` and `RET` (D2, D23). -/
def Obligations.UnmatchedWordsExact : Prop :=
  (∀ op : Word, (∀ i, decode op ≠ .ok i) ↔
    (op.toNat / 0x1000 = 0x5 ∧ op.toNat % 0x10 ≠ 0) ∨
    (op.toNat / 0x1000 = 0x9 ∧ op.toNat % 0x10 ≠ 0) ∨
    (op.toNat / 0x1000 = 0x8 ∧ op.toNat % 0x10 ∈ [0x8, 0x9, 0xA, 0xB, 0xC, 0xD, 0xF]) ∨
    (op.toNat / 0x1000 = 0xE ∧ op.toNat % 0x100 ∉ [0x9E, 0xA1]) ∨
    (op.toNat / 0x1000 = 0xF ∧ op.toNat % 0x100 ∉ [0x07, 0x0A, 0x15, 0x18, 0x1E, 0x29, 0x33, 0x55, 0x65])) ∧
  (∀ op : Word, (∃ nnn, decode op = .ok (.sys nnn)) ↔ op.toNat < 0x1000 ∧ op.toNat ≠ 0x00E0 ∧ op.toNat ≠ 0x00EE)

/-- One word of each group, written out from R51's patterns (D1), reads as its instruction. -/
def Obligations.SampleWordsDecode : Prop :=
  decode 0x00E0#16 = .ok .cls ∧ decode 0x00EE#16 = .ok .ret ∧ decode 0x01E0#16 = .ok (.sys 0x1E0#12) ∧
  decode 0x1234#16 = .ok (.jp 0x234#12) ∧ decode 0x3A42#16 = .ok (.seVxNn 0xA 0x42#8) ∧
  decode 0x8126#16 = .ok (.shrVxVy 1 2) ∧ decode 0xB300#16 = .ok (.jpV0 0x300#12) ∧
  decode 0xC30F#16 = .ok (.rnd 3 0x0F#8) ∧ decode 0xD125#16 = .ok (.drw 1 2 5#4) ∧
  decode 0xE49E#16 = .ok (.skp 4) ∧ decode 0xF265#16 = .ok (.ldVxMi 2) ∧ decode 0x5121#16 = .error .group5

/-! ## The cycle and the host's operations -/

/-- One step performs the host's next operation, which leaves the schedule; with nothing scheduled it is a cycle. When the
bytes at `pc` decode, a cycle is `exec` of that instruction with `pc` past it (R61). The schedule is the model's (log
entry 1). -/
def Obligations.StepRunsTheDecodedInstruction : Prop :=
  (∀ s op rest, s.schedule = op :: rest → step s = perform op { s with schedule := rest }) ∧
  (∀ s, s.schedule = [] → step s = perform .cycle s) ∧
  (∀ s i, s.nextOperation = .cycle → s.fault = none → s.pc.toNat ≤ 4094 → decode s.nextWord = .ok i →
    step s = exec i (s.dequeue.setPc (s.pc + 2)))

/-- The faults of a cycle before an instruction runs, in R125's order: a `pc` above 4094 cannot be fetched, whatever the
bytes are (R34, R121; the `pc` as information is D27), and a word that does not decode is an invalid opcode. -/
def Obligations.CycleFaultsBeforeExecution : Prop :=
  ∀ s, s.nextOperation = .cycle → s.fault = none →
    (s.pc.toNat > 4094 → step s = .fault (.memoryFault s.pc.toNat)) ∧
    (s.pc.toNat ≤ 4094 → (∀ i, decode s.nextWord ≠ .ok i) → step s = .fault (.invalidOpcode s.nextWord))

/-- `fb_changed` is true exactly for `CLS` and `DRW` (R62). The returned value stands in `reply` (log entry 2). -/
def Obligations.FbChangedOnlyByClearAndDraw : Prop :=
  ∀ i s t, exec i s = .next t →
    ((i = .cls ∨ ∃ x y n, i = .drw x y n) → t.reply = .ok true) ∧
    (¬ (i = .cls ∨ ∃ x y n, i = .drw x y n) → t.reply = .ok false)

/-- `SetKeys` writes the whole snapshot and nothing else, so it leaves `KEYWAIT` alone, and it is refused after a fault (R64,
R67; D26). That the refusal is an outcome of the step carrying the recorded fault is the model's (log entry 10). -/
def Obligations.SetKeysReplacesTheSnapshot : Prop :=
  ∀ (k : Keys) (s : State),
    (s.fault = none → ∃ t, perform (.setKeys k) s = .next t ∧ (∀ j : Key, t.pressed j = k[j]) ∧ t.reply = .done ∧
      FrameExcept [.key] s t) ∧
    (∀ f, s.fault = some f → perform (.setKeys k) s = .refused (.faultedInstance f))

/-- The read operations answer `fb`, `ST` and `DT` and change nothing, and what they answer depends on nothing else (R65). -/
def Obligations.ReadsShowOnlyTheOutputs : Prop :=
  (∀ s, s.fault = none →
    (∃ t, perform .readFramebuffer s = .next t ∧ t.reply = .pixels s.fb ∧ FrameExcept [] s t) ∧
    (∃ t, perform .readSoundTimer s = .next t ∧ t.reply = .timer s.st ∧ FrameExcept [] s t) ∧
    (∃ t, perform .readDelayTimer s = .next t ∧ t.reply = .timer s.dt ∧ FrameExcept [] s t)) ∧
  (∀ op ∈ [Operation.readFramebuffer, .readSoundTimer, .readDelayTimer], ∀ s s' t t',
    s.fb = s'.fb → s.st = s'.st → s.dt = s'.dt → perform op s = .next t → perform op s' = .next t' → t.reply = t'.reply)

/-- The ticks take one from their timer, never below zero, and change nothing else; the combined tick is the two in
sequence (R131, D28). -/
def Obligations.TicksDecrementTowardZero : Prop :=
  ∀ s, s.fault = none →
    (∃ t, perform .tickDelay s = .next t ∧ t.dt.toNat = s.dt.toNat - 1 ∧ FrameExcept [.dt] s t) ∧
    (∃ t, perform .tickSound s = .next t ∧ t.st.toNat = s.st.toNat - 1 ∧ FrameExcept [.st] s t) ∧
    (∃ t u, perform .tickDelay s = .next t ∧ perform .tickSound t = .next u ∧ perform .tickTimers s = .next u)

/-- What an operation may change: the column "changes" of R60's table, and for a cycle R129's and R143's limits. "All state"
of `Reset` is the block's; the model's own `schedule` and `draws` are not in it (log entry 13). -/
def operationWrites : Operation → List Part
  | .reset _ _ => [.v, .i, .pc, .stack, .sp, .dt, .st, .fb, .key, .mem, .fault, .keyWait, .config]
  | .cycle => [.v, .i, .pc, .stack, .sp, .dt, .st, .fb, .mem, .keyWait, .draws]
  | .tickDelay => [.dt]
  | .tickSound => [.st]
  | .tickTimers => [.dt, .st]
  | .setKeys _ => [.key]
  | .readFramebuffer | .readSoundTimer | .readDelayTimer => []

/-- No operation changes more than R60 gives it. So a cycle changes neither the keys nor the configuration nor `FAULT`,
only `Reset` changes the configuration, and only `Reset` clears `FAULT` (R6, R18, R143). That `Reset` keeps what is left of
the schedule and the draw counter is the model's choice, not R60's (log entry 13; the two fields are log entries 1 and 3). -/
def Obligations.OperationsChangeOnlyTheirOwn : Prop :=
  ∀ op s t, perform op s = .next t → FrameExcept (operationWrites op) s t

/-- A program that has stopped (R68, D32), or that waits for a key nobody presses (R112), leaves all state as it is at
every cycle; only the reply is set. -/
def Obligations.StoppedAndWaitingProgramsStay : Prop :=
  (∀ s a, s.schedule = [] → s.StoppedAt a → step s = .next { s with reply := .ok false }) ∧
  (∀ s x, s.schedule = [] → s.fault = none → s.pc.toNat ≤ 4094 → decode s.nextWord = .ok (.ldVxK x) →
    s.config.keyWaitRelease = false → (∀ k, s.pressed k = false) → step s = .next { s with reply := .ok false })

/-! ## Reset -/

/-- After reset, `State.reset` or any accepted `Reset`: registers, timers and stack are zero and `pc` is 0x200, so that the
first instruction is the word at 0x200, 0x201 (R23, R25, R26). -/
def Obligations.ResetZeroesRegistersTimersStack : Prop :=
  ∀ t, (t = State.reset ∨ ∃ config rom s, perform (.reset config rom) s = .next t) →
    (∀ r, t.getV r = 0) ∧ t.pc = 0x200 ∧ t.sp = 0 ∧ (∀ k : Fin 16, t.stack[k] = 0) ∧ t.dt = 0 ∧ t.st = 0 ∧
    fetch t = .ok (wordOfBytes (t.byteAt 0x200) (t.byteAt 0x201), t.setPc 0x202)

/-- The rest of the reset state: `I`, `fb` and the keys by the spec's decisions D12, D10 and D11 (log entry 11), `FAULT` and
`KEYWAIT` none, and the configuration as given. -/
def Obligations.ResetClearsIndexDisplayKeysLatches : Prop :=
  ∀ config rom s t, perform (.reset config rom) s = .next t →
    t.i = 0 ∧ (∀ row col, t.pixel row col = false) ∧ (∀ k, t.pressed k = false) ∧ t.fault = none ∧ t.keyWait = none ∧
    t.config = config

/-- Memory after `Reset`: the ROM from 0x200, the font at `FONT_BASE`, and 0 at every other address up to 4095 (R27; the zero
is D9, log entry 11). The font's bytes are those of `FontBytesAreWrittenOut`. -/
def Obligations.ResetFillsMemory : Prop :=
  ∀ config rom s, config.Valid → rom.length ≤ 3584 → ∃ t, perform (.reset config rom) s = .next t ∧
    (∀ k (h : k < rom.length), t.byteAt (0x200 + k) = rom[k]) ∧
    (∀ k (h : k < fontTable.length), t.byteAt (config.fontBase + k) = fontTable[k]) ∧
    (∀ a, a < 4096 → ¬ (0x200 ≤ a ∧ a < 0x200 + rom.length) → ¬ (config.fontBase ≤ a ∧ a < config.fontBase + 80) →
      t.byteAt a = 0)

/-- The 80 bytes R32 prints, glyph by glyph, are in memory from `FONT_BASE` up after `Reset`. The bytes are the spec's general
knowledge (D6, G5; log entry 7). -/
def Obligations.FontBytesAreWrittenOut : Prop :=
  ∀ config rom s, config.Valid → rom.length ≤ 3584 → ∃ t, perform (.reset config rom) s = .next t ∧
    t.bytesAt config.fontBase 40 =
      [0xF0, 0x90, 0x90, 0x90, 0xF0, /- 0 -/ 0x20, 0x60, 0x20, 0x20, 0x70, /- 1 -/
       0xF0, 0x10, 0xF0, 0x80, 0xF0, /- 2 -/ 0xF0, 0x10, 0xF0, 0x10, 0xF0, /- 3 -/
       0x90, 0x90, 0xF0, 0x10, 0x10, /- 4 -/ 0xF0, 0x80, 0xF0, 0x10, 0xF0, /- 5 -/
       0xF0, 0x80, 0xF0, 0x90, 0xF0, /- 6 -/ 0xF0, 0x10, 0x20, 0x40, 0x40  /- 7 -/] ∧
    t.bytesAt (config.fontBase + 40) 40 =
      [0xF0, 0x90, 0xF0, 0x90, 0xF0, /- 8 -/ 0xF0, 0x90, 0xF0, 0x10, 0xF0, /- 9 -/
       0xF0, 0x90, 0xF0, 0x90, 0x90, /- A -/ 0xE0, 0x90, 0xE0, 0x90, 0xE0, /- B -/
       0xF0, 0x80, 0x80, 0x80, 0xF0, /- C -/ 0xE0, 0x90, 0x90, 0x90, 0xE0, /- D -/
       0xF0, 0x80, 0xF0, 0x80, 0xF0, /- E -/ 0xF0, 0x80, 0xF0, 0x80, 0x80  /- F -/]

/-- `Reset` refuses a ROM that does not fit and a font that would reach the program origin, and otherwise answers a next state,
one state whatever the instance was before, faulted or not (R140, R141, D13). The schedule and the draw counter, which the
last clause leaves out, are the model's own (log entry 13). -/
def Obligations.ResetIgnoresTheFormerState : Prop :=
  (∀ config rom s, rom.length > 3584 → perform (.reset config rom) s = .refused (.romTooLong rom.length)) ∧
  (∀ config rom s, rom.length ≤ 3584 → ¬ config.Valid →
    perform (.reset config rom) s = .refused (.fontBaseTooHigh config.fontBase)) ∧
  (∀ config rom s, rom.length ≤ 3584 → config.Valid → ∃ t, perform (.reset config rom) s = .next t) ∧
  (∀ config rom s s' t t', perform (.reset config rom) s = .next t → perform (.reset config rom) s' = .next t' →
    { t with schedule := [], draws := 0 } = { t' with schedule := [], draws := 0 })

/-! ## Invariants -/

/-- `State.reset` meets the invariants below. -/
def Obligations.ResetMeetsTheInvariants : Prop := State.reset.Inv ∧ State.reset.WaitInv

/-- Every step keeps the invariant, whichever operation it is: the memory stays canonical, `pc` and the stack stay in the
ranges R13 derives, so `pc` never wraps, and `KEYWAIT` stays unused while its quirk is off (R21). -/
def Obligations.StepKeepsTheInvariant : Prop := ∀ s t, s.Inv → step s = .next t → t.Inv

/-- Every step keeps it: while `KEYWAIT` holds a key, `pc` points at the `LD_VX_K` that waits (R112, corner cases). -/
def Obligations.StepKeepsTheKeyWait : Prop := ∀ s t, s.WaitInv → step s = .next t → t.WaitInv

/-- Memory in canonical form is determined by what it reads as. -/
def Obligations.CanonicalMemoryIsUnique : Prop :=
  ∀ base m m', Memory.wf base m → Memory.wf base m' → (∀ a, Memory.read base m a = Memory.read base m' a) → m = m'

/-- A store is seen by the next fetch: registers dumped over the next instruction are what is fetched next (R43). With
`x = 0` only its first byte is replaced. -/
def Obligations.StoreSeenByTheNextFetch : Prop :=
  ∀ (x : Reg) (s t : State), s.i = s.pc → s.pc.toNat ≤ 4094 → exec (.ldMiVx x) s = .next t →
    fetch t = .ok (wordOfBytes (s.getV 0) (if x = 0 then s.byteAt (s.pc.toNat + 1) else s.getV 1), t.setPc (t.pc + 2))

/-! ## Faults -/

/-- The one fault an instruction raises in a state (R120, R121): the conditions of R70, R71, R73, R98, R99, R100, R103. -/
def faultOf (s : State) : Instr → Option Fault
  | .sys nnn => some (.invalidOpcode (BitVec.ofNat 16 nnn.toNat))
  | .ret => if s.sp.val = 0 then some .stackUnderflow else none
  | .call _ => if s.sp.val = 16 then some .stackOverflow else none
  | .drw _ _ n => if 0 < n.toNat ∧ s.i.toNat + n.toNat - 1 > 4095 then some (.memoryFault (max s.i.toNat 4096)) else none
  | .ldBVx _ => if s.i.toNat + 2 > 4095 then some (.memoryFault (max s.i.toNat 4096)) else none
  | .ldMiVx x => if s.i.toNat + x.val > 4095 then some (.memoryFault (max s.i.toNat 4096)) else none
  | .ldVxMi x => if s.i.toNat + x.val > 4095 then some (.memoryFault (max s.i.toNat 4096)) else none
  | _ => none

/-- An instruction faults exactly on its condition, and otherwise completes; none is ever refused (R120, R121; the
information is D27). -/
def Obligations.InstructionsFaultExactlyOnTheirCondition : Prop :=
  ∀ i s, (∀ f, exec i s = .fault f ↔ faultOf s i = some f) ∧ (faultOf s i = none → ∃ t, exec i s = .next t) ∧
    (∀ r, exec i s ≠ .refused r)

/-- The stack faults belong to `CALL` at 16 entries and to `RET` at none (R122, R123). -/
def Obligations.StackFaultsExact : Prop :=
  ∀ i s, (exec i s = .fault .stackOverflow ↔ (∃ nnn, i = .call nnn) ∧ s.sp.val = 16) ∧
    (exec i s = .fault .stackUnderflow ↔ i = .ret ∧ s.sp.val = 0)

/-- On a faulted instance every operation but `Reset` is refused with the recorded fault, and `Reset` clears it (R67, R128,
D26). -/
def Obligations.FaultedInstanceOnlyResets : Prop :=
  ∀ s f, s.fault = some f →
    (∀ op, (∀ config rom, op ≠ .reset config rom) → perform op s = .refused (.faultedInstance f)) ∧
    (∀ config rom t, perform (.reset config rom) s = .next t → t.fault = none)

/-- The code of a fault, as R120's table numbers them (D34). -/
def codeOfR120 : Fault → Nat
  | .memoryFault _ => 1
  | .stackOverflow => 2
  | .stackUnderflow => 3
  | .invalidOpcode _ => 4

/-- The output signals of R69: `fault_kind` is 0 without a fault and R120's code of the latched one (D34), and `tone` is on
exactly while `ST` is not 0 (R132). -/
def Obligations.OutputSignals : Prop :=
  ∀ s : State, (s.fault = none → s.faultKind = 0) ∧ (∀ a, s.fault = some (.memoryFault a) → s.faultKind = 1) ∧
    (s.fault = some .stackOverflow → s.faultKind = 2) ∧ (s.fault = some .stackUnderflow → s.faultKind = 3) ∧
    (∀ op, s.fault = some (.invalidOpcode op) → s.faultKind = 4) ∧ (s.tone = true ↔ s.st ≠ 0)

/-- A cycle that faults latches its fault, and the latch holds through any number of operations
among which there is no `Reset` (R20, R126, R128). That the instance goes on this way is `State.after` (log entries 9, 12). -/
def Obligations.FaultLatchIsSticky : Prop :=
  (∀ s f, step s = .fault f → s.after.fault = some f ∧ s.after.config = s.config ∧ s.after.faultKind = codeOfR120 f) ∧
  (∀ (k : Nat) (s : State) (f : Fault), s.fault = some f → (∀ op ∈ s.schedule, ∀ config rom, op ≠ .reset config rom) →
    (s.afterMany k).fault = some f)

/-! ## What each instruction writes -/

/-- The pieces of the state an instruction may write: the column "written by" of 10_state.md section 1. -/
def partsWritten : Instr → List Part
  | .cls => [.fb]
  | .ret => [.sp, .pc]
  | .call _ => [.stack, .sp, .pc]
  | .jp _ | .jpV0 _ | .seVxNn _ _ | .sneVxNn _ _ | .seVxVy _ _ | .sneVxVy _ _ | .skp _ | .sknp _ => [.pc]
  | .ldVxNn _ _ | .addVxNn _ _ | .ldVxVy _ _ | .orVxVy _ _ | .andVxVy _ _ | .xorVxVy _ _ | .addVxVy _ _
  | .subVxVy _ _ | .shrVxVy _ _ | .subnVxVy _ _ | .shlVxVy _ _ | .ldVxDt _ | .ldVxMi _ => [.v]
  | .ldINnn _ | .ldFVx _ => [.i]
  | .addIVx _ => [.i, .v]
  | .rnd _ _ => [.v, .draws]
  | .drw _ _ _ => [.v, .fb]
  | .ldVxK _ => [.v, .pc, .keyWait]
  | .ldDtVx _ => [.dt]
  | .ldStVx _ => [.st]
  | .ldBVx _ | .ldMiVx _ => [.mem]
  | .sys _ => []

/-- No instruction writes a piece of state that R10 to R21 do not give it: memory is written by `LD_B_VX` and `LD_MI_VX`
only (R37, C3), the framebuffer by `CLS` and `DRW` (R17), the stack by `CALL` (R14), `I` by three instructions (R12). -/
def Obligations.InstructionsWriteOnlyTheirParts : Prop := ∀ i s t, exec i s = .next t → FrameExcept (partsWritten i) s t

/-- The registers an instruction writes: its destination, and `VF` where R11 says so. -/
def registersWritten (s : State) : Instr → List Reg
  | .ldVxNn x _ | .addVxNn x _ | .ldVxVy x _ | .orVxVy x _ | .andVxVy x _ | .xorVxVy x _ | .rnd x _ | .ldVxDt x
  | .ldVxK x => [x]
  | .addVxVy x _ | .subVxVy x _ | .shrVxVy x _ | .subnVxVy x _ | .shlVxVy x _ => [x, VF]
  | .drw _ _ _ => [VF]
  | .addIVx _ => if s.config.addISetsVf then [VF] else []
  | .ldVxMi x => (List.finRange 16).filter (· ≤ x)
  | _ => []

/-- Every other register is unchanged. So `VF` changes only under the instructions R11 lists or as a destination. -/
def Obligations.InstructionsWriteOnlyTheirRegisters : Prop :=
  ∀ i s t, exec i s = .next t → ∀ r, r ∉ registersWritten s i → t.getV r = s.getV r

/-- No instruction reads `ST` (R16): with another sound timer everything comes out the same, but for `ST` itself. -/
def Obligations.SoundTimerIsNeverRead : Prop :=
  ∀ i s b, (∀ x, i ≠ .ldStVx x) →
    (∀ t, exec i s = .next t → exec i (s.setSt b) = .next (t.setSt b)) ∧
    (∀ f, exec i s = .fault f → exec i (s.setSt b) = .fault f)

/-! ## Control flow -/

/-- `SYS` always raises `InvalidOpcode` with its word (R70, D2). -/
def Obligations.SysAlwaysInvalid : Prop :=
  ∀ (nnn : BitVec 12) (s : State), exec (.sys nnn) s = .fault (.invalidOpcode (wordA 0x0 nnn)) ∧
    (nnn ≠ 0x0E0#12 → nnn ≠ 0x0EE#12 → decode (wordA 0x0 nnn) = .ok (.sys nnn))

/-- `RET` (R71): underflow at an empty stack, else `SP` goes down and `pc` is the entry popped, which keeps its value. -/
def Obligations.RetPopsThePc : Prop :=
  decode 0x00EE#16 = .ok .ret ∧
  ∀ s, (s.sp.val = 0 → exec .ret s = .fault .stackUnderflow) ∧
    (∀ k : Fin 16, s.sp.val = k.val + 1 → ∃ t, exec .ret s = .next t ∧ t.sp.val = k.val ∧ t.pc = s.stack[k] ∧
      FrameExcept [.sp, .pc] s t ∧ t.reply = .ok false)

/-- `JP NNN` (R72). -/
def Obligations.JpSetsThePc : Prop :=
  ∀ (nnn : BitVec 12) (s : State), decode (wordA 0x1 nnn) = .ok (.jp nnn) ∧
    ∃ t, exec (.jp nnn) s = .next t ∧ t.pc.toNat = nnn.toNat ∧ FrameExcept [.pc] s t ∧ t.reply = .ok false

/-- `CALL NNN` (R73): overflow at 16 entries, else `pc` is pushed and then set to `nnn`; the other entries are unchanged. A
`RET` at once after it resumes after the `CALL` with the stack as deep as before. -/
def Obligations.CallPushesThePc : Prop :=
  ∀ (nnn : BitVec 12) (s : State), decode (wordA 0x2 nnn) = .ok (.call nnn) ∧
    (s.sp.val = 16 → exec (.call nnn) s = .fault .stackOverflow) ∧
    (∀ k : Fin 16, s.sp.val = k.val → ∃ t, exec (.call nnn) s = .next t ∧ t.stack[k] = s.pc ∧
      (∀ j : Fin 16, j ≠ k → t.stack[j] = s.stack[j]) ∧ t.sp.val = k.val + 1 ∧ t.pc.toNat = nnn.toNat ∧
      FrameExcept [.stack, .sp, .pc] s t ∧ t.reply = .ok false) ∧
    (s.sp.val < 16 → ∃ t u, exec (.call nnn) s = .next t ∧ exec .ret t = .next u ∧ u.pc = s.pc ∧ u.sp = s.sp ∧
      FrameExcept [.stack] s u)

/-- `SE Vx, NN` and `SNE Vx, NN` (R74, R75). -/
def Obligations.SkipOnImmediate : Prop :=
  ∀ (x : Reg) (nn : Byte) (s : State),
    decode (wordXI 0x3 x nn.toNat) = .ok (.seVxNn x nn) ∧ decode (wordXI 0x4 x nn.toNat) = .ok (.sneVxNn x nn) ∧
    (∃ t, exec (.seVxNn x nn) s = .next t ∧ (s.getV x = nn → t.pc = s.pc + 2) ∧ (s.getV x ≠ nn → t.pc = s.pc) ∧
      FrameExcept [.pc] s t ∧ t.reply = .ok false) ∧
    (∃ t, exec (.sneVxNn x nn) s = .next t ∧ (s.getV x ≠ nn → t.pc = s.pc + 2) ∧ (s.getV x = nn → t.pc = s.pc) ∧
      FrameExcept [.pc] s t ∧ t.reply = .ok false)

/-- `SE Vx, Vy` and `SNE Vx, Vy` (R76, R77); with any other trailing nibble the word is no instruction. -/
def Obligations.SkipOnRegisters : Prop :=
  ∀ (x y : Reg) (s : State),
    decode (wordXYN 0x5 x y 0) = .ok (.seVxVy x y) ∧ decode (wordXYN 0x9 x y 0) = .ok (.sneVxVy x y) ∧
    (∀ n, 0 < n → n < 16 → ∀ i, decode (wordXYN 0x5 x y n) ≠ .ok i ∧ decode (wordXYN 0x9 x y n) ≠ .ok i) ∧
    (∃ t, exec (.seVxVy x y) s = .next t ∧ (s.getV x = s.getV y → t.pc = s.pc + 2) ∧
      (s.getV x ≠ s.getV y → t.pc = s.pc) ∧ FrameExcept [.pc] s t ∧ t.reply = .ok false) ∧
    (∃ t, exec (.sneVxVy x y) s = .next t ∧ (s.getV x ≠ s.getV y → t.pc = s.pc + 2) ∧
      (s.getV x = s.getV y → t.pc = s.pc) ∧ FrameExcept [.pc] s t ∧ t.reply = .ok false)

/-- `JP V0, NNN` (R78): the exact sum, not masked (D33). -/
def Obligations.JpV0AddsTheOffset : Prop :=
  ∀ (nnn : BitVec 12) (s : State), decode (wordA 0xB nnn) = .ok (.jpV0 nnn) ∧
    ∃ t, exec (.jpV0 nnn) s = .next t ∧ t.pc.toNat = (s.getV 0).toNat + nnn.toNat ∧ FrameExcept [.pc] s t ∧
      t.reply = .ok false

/-! ## Load, arithmetic, logic, shift, random -/

/-- `LD Vx, NN` (R80). -/
def Obligations.LoadImmediate : Prop :=
  ∀ (x : Reg) (nn : Byte) (s : State), decode (wordXI 0x6 x nn.toNat) = .ok (.ldVxNn x nn) ∧
    ∃ t, exec (.ldVxNn x nn) s = .next t ∧ t.getV x = nn ∧ (∀ r, r ≠ x → t.getV r = s.getV r) ∧
      FrameExcept [.v] s t ∧ t.reply = .ok false

/-- `ADD Vx, NN` (R81): modulo 256 and no flag, and twice `nn` is once `2 nn mod 256`. -/
def Obligations.AddImmediateWraps : Prop :=
  ∀ (x : Reg) (nn : Byte) (s : State), decode (wordXI 0x7 x nn.toNat) = .ok (.addVxNn x nn) ∧
    (∃ t, exec (.addVxNn x nn) s = .next t ∧ (t.getV x).toNat = ((s.getV x).toNat + nn.toNat) % 256 ∧
      (∀ r, r ≠ x → t.getV r = s.getV r) ∧ FrameExcept [.v] s t ∧ t.reply = .ok false) ∧
    (∀ t, exec (.addVxNn x nn) s = .next t →
      exec (.addVxNn x nn) t = exec (.addVxNn x (BitVec.ofNat 8 (2 * nn.toNat % 256))) s)

/-- `LD Vx, Vy` (R82). -/
def Obligations.CopyRegister : Prop :=
  ∀ (x y : Reg) (s : State), decode (wordXYN 0x8 x y 0) = .ok (.ldVxVy x y) ∧
    ∃ t, exec (.ldVxVy x y) s = .next t ∧ t.getV x = s.getV y ∧ (∀ r, r ≠ x → t.getV r = s.getV r) ∧
      FrameExcept [.v] s t ∧ t.reply = .ok false

/-- `OR`, `AND`, `XOR` (R83, R84, R85): bit by bit, and `VF` is written only as the destination (D19). -/
def Obligations.LogicIsBitwise : Prop :=
  ∀ (x y : Reg) (s : State),
    decode (wordXYN 0x8 x y 1) = .ok (.orVxVy x y) ∧ decode (wordXYN 0x8 x y 2) = .ok (.andVxVy x y) ∧
    decode (wordXYN 0x8 x y 3) = .ok (.xorVxVy x y) ∧
    (∃ t, exec (.orVxVy x y) s = .next t ∧
      (∀ k < 8, (t.getV x).getLsbD k = ((s.getV x).getLsbD k || (s.getV y).getLsbD k)) ∧
      (∀ r, r ≠ x → t.getV r = s.getV r) ∧ FrameExcept [.v] s t ∧ t.reply = .ok false) ∧
    (∃ t, exec (.andVxVy x y) s = .next t ∧
      (∀ k < 8, (t.getV x).getLsbD k = ((s.getV x).getLsbD k && (s.getV y).getLsbD k)) ∧
      (∀ r, r ≠ x → t.getV r = s.getV r) ∧ FrameExcept [.v] s t ∧ t.reply = .ok false) ∧
    (∃ t, exec (.xorVxVy x y) s = .next t ∧
      (∀ k < 8, (t.getV x).getLsbD k = ((s.getV x).getLsbD k != (s.getV y).getLsbD k)) ∧
      (∀ r, r ≠ x → t.getV r = s.getV r) ∧ FrameExcept [.v] s t ∧ t.reply = .ok false)

/-- `ADD Vx, Vy` (R86): the sum modulo 256 and the carry from the operands before; with `x = 15` the flag wins (R92, D18). -/
def Obligations.AddSetsCarry : Prop :=
  ∀ (x y : Reg) (s : State), decode (wordXYN 0x8 x y 4) = .ok (.addVxVy x y) ∧
    ∃ t, exec (.addVxVy x y) s = .next t ∧
      (x ≠ VF → (t.getV x).toNat = ((s.getV x).toNat + (s.getV y).toNat) % 256) ∧
      ((s.getV x).toNat + (s.getV y).toNat > 255 → t.getV VF = 1) ∧
      ((s.getV x).toNat + (s.getV y).toNat ≤ 255 → t.getV VF = 0) ∧
      (∀ r, r ≠ x → r ≠ VF → t.getV r = s.getV r) ∧ FrameExcept [.v] s t ∧ t.reply = .ok false

/-- `SUB` and `SUBN` (R87, R89): the difference modulo 256 and not-borrow; with `x = 15` the flag wins (R92, D18). -/
def Obligations.SubtractSetsNotBorrow : Prop :=
  ∀ (x y : Reg) (s : State),
    decode (wordXYN 0x8 x y 5) = .ok (.subVxVy x y) ∧ decode (wordXYN 0x8 x y 7) = .ok (.subnVxVy x y) ∧
    (∃ t, exec (.subVxVy x y) s = .next t ∧
      (x ≠ VF → (t.getV x).toNat = ((s.getV x).toNat + 256 - (s.getV y).toNat) % 256) ∧
      ((s.getV x).toNat ≥ (s.getV y).toNat → t.getV VF = 1) ∧
      ((s.getV x).toNat < (s.getV y).toNat → t.getV VF = 0) ∧
      (∀ r, r ≠ x → r ≠ VF → t.getV r = s.getV r) ∧ FrameExcept [.v] s t ∧ t.reply = .ok false) ∧
    (∃ t, exec (.subnVxVy x y) s = .next t ∧
      (x ≠ VF → (t.getV x).toNat = ((s.getV y).toNat + 256 - (s.getV x).toNat) % 256) ∧
      ((s.getV y).toNat ≥ (s.getV x).toNat → t.getV VF = 1) ∧
      ((s.getV y).toNat < (s.getV x).toNat → t.getV VF = 0) ∧
      (∀ r, r ≠ x → r ≠ VF → t.getV r = s.getV r) ∧ FrameExcept [.v] s t ∧ t.reply = .ok false)

/-- The register a shift reads (R88, R90): `V[y]` under `QUIRK_SHIFT_SRC_VY`, else `V[x]`. -/
def shiftedRegister (s : State) (x y : Reg) : Reg := if s.config.shiftSrcVy then y else x

/-- `SHR` and `SHL` under either setting of the quirk (R88, R90): one bit, and the bit shifted out in `VF`, which wins for
`x = 15` (R92, D18). -/
def Obligations.ShiftsMoveOneBit : Prop :=
  ∀ (x y : Reg) (s : State),
    decode (wordXYN 0x8 x y 6) = .ok (.shrVxVy x y) ∧ decode (wordXYN 0x8 x y 0xE) = .ok (.shlVxVy x y) ∧
    (∃ t, exec (.shrVxVy x y) s = .next t ∧
      (x ≠ VF → (t.getV x).toNat = (s.getV (shiftedRegister s x y)).toNat / 2) ∧
      (t.getV VF).toNat = (s.getV (shiftedRegister s x y)).toNat % 2 ∧
      (∀ r, r ≠ x → r ≠ VF → t.getV r = s.getV r) ∧ FrameExcept [.v] s t ∧ t.reply = .ok false) ∧
    (∃ t, exec (.shlVxVy x y) s = .next t ∧
      (x ≠ VF → (t.getV x).toNat = 2 * (s.getV (shiftedRegister s x y)).toNat % 256) ∧
      (t.getV VF).toNat = (s.getV (shiftedRegister s x y)).toNat / 128 ∧
      (∀ r, r ≠ x → r ≠ VF → t.getV r = s.getV r) ∧ FrameExcept [.v] s t ∧ t.reply = .ok false)

/-- `RND Vx, NN` (R91): the byte drawn, masked; one byte is consumed, and no bit outside `nn` is set. The byte is a free value
(D29, log entry 3), so this holds whatever it is. -/
def Obligations.RandomIsMasked : Prop :=
  ∀ (x : Reg) (nn : Byte) (s : State), decode (wordXI 0xC x nn.toNat) = .ok (.rnd x nn) ∧
    ∃ t, exec (.rnd x nn) s = .next t ∧ t.getV x = Config.randByte s.draws &&& nn ∧ t.getV x &&& ~~~nn = 0 ∧
      t.draws = s.draws + 1 ∧ (∀ r, r ≠ x → t.getV r = s.getV r) ∧ FrameExcept [.v, .draws] s t ∧ t.reply = .ok false

/-! ## Index register and memory -/

/-- `LD I, NNN` (R95). -/
def Obligations.LoadIndex : Prop :=
  ∀ (nnn : BitVec 12) (s : State), decode (wordA 0xA nnn) = .ok (.ldINnn nnn) ∧
    ∃ t, exec (.ldINnn nnn) s = .next t ∧ t.i.toNat = nnn.toNat ∧ FrameExcept [.i] s t ∧ t.reply = .ok false

/-- `ADD I, Vx` under either setting of the quirk (R96; not masked, D17; the threshold of the flag, D16). -/
def Obligations.AddToIndex : Prop :=
  ∀ (x : Reg) (s : State), decode (wordXI 0xF x 0x1E) = .ok (.addIVx x) ∧
    ∃ t, exec (.addIVx x) s = .next t ∧ t.i.toNat = (s.i.toNat + (s.getV x).toNat) % 65536 ∧
      (s.config.addISetsVf = false → ∀ r, t.getV r = s.getV r) ∧
      (s.config.addISetsVf = true → s.i.toNat + (s.getV x).toNat > 0x0FFF → t.getV VF = 1) ∧
      (s.config.addISetsVf = true → s.i.toNat + (s.getV x).toNat ≤ 0x0FFF → t.getV VF = 0) ∧
      (∀ r, r ≠ VF → t.getV r = s.getV r) ∧ FrameExcept [.i, .v] s t ∧ t.reply = .ok false

/-- `LD F, Vx` (R97), for a font base R5 allows; the glyph is then in memory. -/
def Obligations.FontAddress : Prop :=
  ∀ (x : Reg) (s : State), decode (wordXI 0xF x 0x29) = .ok (.ldFVx x) ∧
    (s.config.Valid → ∃ t, exec (.ldFVx x) s = .next t ∧
      t.i.toNat = s.config.fontBase + 5 * ((s.getV x).toNat % 16) ∧ t.i.toNat + 4 ≤ 4095 ∧
      FrameExcept [.i] s t ∧ t.reply = .ok false)

/-- `LD B, Vx` (R98): three digits from `I` up, or the fault when the third is above 4095. -/
def Obligations.StoreDecimalDigits : Prop :=
  ∀ (x : Reg) (s : State), decode (wordXI 0xF x 0x33) = .ok (.ldBVx x) ∧
    (s.i.toNat + 2 > 4095 → exec (.ldBVx x) s = .fault (.memoryFault (max s.i.toNat 4096))) ∧
    (s.i.toNat + 2 ≤ 4095 → ∃ t, exec (.ldBVx x) s = .next t ∧
      (t.byteAt s.i.toNat).toNat = (s.getV x).toNat / 100 ∧
      (t.byteAt (s.i.toNat + 1)).toNat = (s.getV x).toNat / 10 % 10 ∧
      (t.byteAt (s.i.toNat + 2)).toNat = (s.getV x).toNat % 10 ∧
      (∀ a, a < s.i.toNat ∨ s.i.toNat + 2 < a → t.byteAt a = s.byteAt a) ∧
      FrameExcept [.mem] s t ∧ t.reply = .ok false)

/-- `LD [I], Vx` (R99): `V[0]` to `V[x]` from `I` up, or the fault when the last is above 4095. -/
def Obligations.DumpRegisters : Prop :=
  ∀ (x : Reg) (s : State), decode (wordXI 0xF x 0x55) = .ok (.ldMiVx x) ∧
    (s.i.toNat + x.val > 4095 → exec (.ldMiVx x) s = .fault (.memoryFault (max s.i.toNat 4096))) ∧
    (s.i.toNat + x.val ≤ 4095 → ∃ t, exec (.ldMiVx x) s = .next t ∧
      (∀ r : Reg, r ≤ x → t.byteAt (s.i.toNat + r.val) = s.getV r) ∧
      (∀ a, a < s.i.toNat ∨ s.i.toNat + x.val < a → t.byteAt a = s.byteAt a) ∧
      FrameExcept [.mem] s t ∧ t.reply = .ok false)

/-- `LD Vx, [I]` (R100): `V[0]` to `V[x]` from memory, or the fault when the last byte is above 4095; and what was dumped
from `I` is loaded back, whatever the registers held in between. -/
def Obligations.LoadRegisters : Prop :=
  ∀ (x : Reg) (s : State), decode (wordXI 0xF x 0x65) = .ok (.ldVxMi x) ∧
    (s.i.toNat + x.val > 4095 → exec (.ldVxMi x) s = .fault (.memoryFault (max s.i.toNat 4096))) ∧
    (s.i.toNat + x.val ≤ 4095 → ∃ t, exec (.ldVxMi x) s = .next t ∧
      (∀ r : Reg, r ≤ x → t.getV r = s.byteAt (s.i.toNat + r.val)) ∧ (∀ r : Reg, x < r → t.getV r = s.getV r) ∧
      FrameExcept [.v] s t ∧ t.reply = .ok false) ∧
    (∀ d u t, exec (.ldMiVx x) d = .next u → FrameExcept [.v, .pc] u s → exec (.ldVxMi x) s = .next t →
      ∀ r : Reg, r ≤ x → t.getV r = d.getV r)

/-! ## Display -/

/-- `CLS` (R102). -/
def Obligations.ClearScreen : Prop :=
  decode 0x00E0#16 = .ok .cls ∧
  ∀ s, ∃ t, exec .cls s = .next t ∧ (∀ row col, t.pixel row col = false) ∧ FrameExcept [.fb] s t ∧ t.reply = .ok true

/-- `bit(px, py)` of R108: the sprite of `n` rows from `I`, laid from column `V[x] mod 64` and row `V[y] mod 32`, has its bit
set at this cell; bit 7 is the leftmost (R104, D7). -/
def SpriteBit (s : State) (x y : Reg) (n : BitVec 4) (row : Fin 32) (col : Fin 64) : Prop :=
  (s.getV y).toNat % 32 ≤ row.val ∧ row.val - (s.getV y).toNat % 32 < n.toNat ∧
  (s.getV x).toNat % 64 ≤ col.val ∧ col.val - (s.getV x).toNat % 64 ≤ 7 ∧
  (s.byteAt (s.i.toNat + (row.val - (s.getV y).toNat % 32))).getLsbD (7 - (col.val - (s.getV x).toNat % 64)) = true

/-- `DRW Vx, Vy, N` (R103 to R108): exactly the cells under a set sprite bit flip, no cell wraps around an edge, and `VF` is
1 exactly when such a cell was set; with `n = 0` nothing is drawn, read or checked (D21); the range check covers all `n`
bytes (D22). -/
def Obligations.DrawXorsTheSprite : Prop :=
  ∀ (x y : Reg) (n : BitVec 4) (s : State), decode (wordXYN 0xD x y n.toNat) = .ok (.drw x y n) ∧
    (0 < n.toNat → s.i.toNat + n.toNat - 1 > 4095 → exec (.drw x y n) s = .fault (.memoryFault (max s.i.toNat 4096))) ∧
    (n.toNat = 0 ∨ s.i.toNat + n.toNat - 1 ≤ 4095 → ∃ t, exec (.drw x y n) s = .next t ∧
      (∀ row col, SpriteBit s x y n row col → t.pixel row col = !s.pixel row col) ∧
      (∀ row col, ¬ SpriteBit s x y n row col → t.pixel row col = s.pixel row col) ∧
      ((∃ row col, SpriteBit s x y n row col ∧ s.pixel row col = true) → t.getV VF = 1) ∧
      (¬ (∃ row col, SpriteBit s x y n row col ∧ s.pixel row col = true) → t.getV VF = 0) ∧
      (∀ r, r ≠ VF → t.getV r = s.getV r) ∧ FrameExcept [.v, .fb] s t ∧ t.reply = .ok true)

/-- The same sprite drawn twice at one place leaves the screen as it was, and the second draw collides when the first set a
pixel (R105). The first draw writes `VF`, so with `VF` as a coordinate the place may move: hence the two premises. -/
def Obligations.DrawTwiceErases : Prop :=
  ∀ (x y : Reg) (n : BitVec 4) (s t u : State), exec (.drw x y n) s = .next t →
    t.getV x = s.getV x → t.getV y = s.getV y → exec (.drw x y n) t = .next u →
    (∀ row col, u.pixel row col = s.pixel row col) ∧
    ((∃ row col, SpriteBit s x y n row col ∧ s.pixel row col = false) → u.getV VF = 1)

/-- `fb[py][px] <- not fb[py][px]`, and `collision <- 1` if it was set. -/
def flipCell (row : Fin 32) (col : Fin 64) (p : Framebuffer × Bool) : Framebuffer × Bool :=
  (p.1.set row.val (p.1[row] ^^^ (1#64 <<< col.val)), p.2 || p.1[row].getLsbD col.val)

/-- The body of R103's column loop. -/
def loopColumn (b : Byte) (x0 : Nat) (row : Fin 32) (p : Framebuffer × Bool) (c : Nat) : Framebuffer × Bool :=
  if h : x0 + c ≤ 63 then
    if b.getLsbD (7 - c) then flipCell row ⟨x0 + c, Nat.lt_succ_of_le h⟩ p else p
  else p

/-- The body of R103's row loop. -/
def loopRow (s : State) (x0 y0 : Nat) (p : Framebuffer × Bool) (r : Nat) : Framebuffer × Bool :=
  if h : y0 + r ≤ 31 then
    (List.range 8).foldl (loopColumn (s.byteAt (s.i.toNat + r)) x0 ⟨y0 + r, Nat.lt_succ_of_le h⟩) p
  else p

/-- R103's two loops, from the framebuffer and a collision of 0. -/
def drawLoop (s : State) (x0 y0 n : Nat) : Framebuffer × Bool := (List.range n).foldl (loopRow s x0 y0) (s.fb, false)

/-- The loops of R103's pseudocode and the pure function of R108, which the model runs, give the same framebuffer and the
same collision bit (log entry 20). -/
def Obligations.DrawLoopIsThePureDraw : Prop :=
  ∀ (s : State) (x0 y0 n : Nat), x0 < 64 → y0 < 32 →
    drawLoop s x0 y0 n = (blit s.fb (s.bytesAt s.i.toNat n) x0 y0, collides s.fb (s.bytesAt s.i.toNat n) x0 y0)

/-! ## Keypad and timers -/

/-- `SKP` and `SKNP` (R110, R111): the key is the low nibble of `V[x]`. -/
def Obligations.SkipOnKey : Prop :=
  ∀ (x : Reg) (k : Key) (s : State), (s.getV x).toNat % 16 = k.val →
    decode (wordXI 0xE x 0x9E) = .ok (.skp x) ∧ decode (wordXI 0xE x 0xA1) = .ok (.sknp x) ∧
    (∃ t, exec (.skp x) s = .next t ∧ (s.pressed k = true → t.pc = s.pc + 2) ∧ (s.pressed k = false → t.pc = s.pc) ∧
      FrameExcept [.pc] s t ∧ t.reply = .ok false) ∧
    (∃ t, exec (.sknp x) s = .next t ∧ (s.pressed k = false → t.pc = s.pc + 2) ∧ (s.pressed k = true → t.pc = s.pc) ∧
      FrameExcept [.pc] s t ∧ t.reply = .ok false)

/-- `LD Vx, K` with `QUIRK_KEY_WAIT_RELEASE` false (R112): the least pressed key (D24), or `pc` goes back. -/
def Obligations.WaitForPress : Prop :=
  ∀ (x : Reg) (s : State), s.config.keyWaitRelease = false →
    decode (wordXI 0xF x 0x0A) = .ok (.ldVxK x) ∧
    (∀ k : Key, s.pressed k = true → (∀ j : Key, j < k → s.pressed j = false) →
      ∃ t, exec (.ldVxK x) s = .next t ∧ (t.getV x).toNat = k.val ∧ (∀ r, r ≠ x → t.getV r = s.getV r) ∧
        FrameExcept [.v] s t ∧ t.reply = .ok false) ∧
    ((∀ k, s.pressed k = false) →
      ∃ t, exec (.ldVxK x) s = .next t ∧ t.pc = s.pc - 2 ∧ FrameExcept [.pc] s t ∧ t.reply = .ok false)

/-- `LD Vx, K` with `QUIRK_KEY_WAIT_RELEASE` true (R112, D15): the least pressed key is latched, other keys are then
ignored, and `V[x]` is written when the latched key is up. -/
def Obligations.WaitForRelease : Prop :=
  ∀ (x : Reg) (s : State), s.config.keyWaitRelease = true →
    (s.keyWait = none → (∀ k, s.pressed k = false) →
      ∃ t, exec (.ldVxK x) s = .next t ∧ t.pc = s.pc - 2 ∧ FrameExcept [.pc] s t ∧ t.reply = .ok false) ∧
    (∀ k : Key, s.keyWait = none → s.pressed k = true → (∀ j : Key, j < k → s.pressed j = false) →
      ∃ t, exec (.ldVxK x) s = .next t ∧ t.keyWait = some k ∧ t.pc = s.pc - 2 ∧ FrameExcept [.keyWait, .pc] s t ∧
        t.reply = .ok false) ∧
    (∀ k : Key, s.keyWait = some k → s.pressed k = true →
      ∃ t, exec (.ldVxK x) s = .next t ∧ t.pc = s.pc - 2 ∧ FrameExcept [.pc] s t ∧ t.reply = .ok false) ∧
    (∀ k : Key, s.keyWait = some k → s.pressed k = false →
      ∃ t, exec (.ldVxK x) s = .next t ∧ (t.getV x).toNat = k.val ∧ t.keyWait = none ∧
        (∀ r, r ≠ x → t.getV r = s.getV r) ∧ FrameExcept [.v, .keyWait] s t ∧ t.reply = .ok false)

/-- `LD Vx, DT`, `LD DT, Vx`, `LD ST, Vx` (R113, R114, R115). -/
def Obligations.TimerMoves : Prop :=
  ∀ (x : Reg) (s : State),
    decode (wordXI 0xF x 0x07) = .ok (.ldVxDt x) ∧ decode (wordXI 0xF x 0x15) = .ok (.ldDtVx x) ∧
    decode (wordXI 0xF x 0x18) = .ok (.ldStVx x) ∧
    (∃ t, exec (.ldVxDt x) s = .next t ∧ t.getV x = s.dt ∧ (∀ r, r ≠ x → t.getV r = s.getV r) ∧
      FrameExcept [.v] s t ∧ t.reply = .ok false) ∧
    (∃ t, exec (.ldDtVx x) s = .next t ∧ t.dt = s.getV x ∧ FrameExcept [.dt] s t ∧ t.reply = .ok false) ∧
    (∃ t, exec (.ldStVx x) s = .next t ∧ t.st = s.getV x ∧ FrameExcept [.st] s t ∧ t.reply = .ok false)
end

