-- ==== Sys2Proof/Laws/State.lean ====
section
/-! SUPPORT. One lemma per field per named update of the state: the field's new value, or that it is unchanged. -/

namespace Sys2Proof.Machine

variable (s : State)

/-! `setV` -/

@[simp] theorem State.setV_v (x : Reg) (b : Byte) : (s.setV x b).v = s.v.set x b := rfl
@[simp] theorem State.setV_i (x : Reg) (b : Byte) : (s.setV x b).i = s.i := rfl
@[simp] theorem State.setV_pc (x : Reg) (b : Byte) : (s.setV x b).pc = s.pc := rfl
@[simp] theorem State.setV_stack (x : Reg) (b : Byte) : (s.setV x b).stack = s.stack := rfl
@[simp] theorem State.setV_sp (x : Reg) (b : Byte) : (s.setV x b).sp = s.sp := rfl
@[simp] theorem State.setV_dt (x : Reg) (b : Byte) : (s.setV x b).dt = s.dt := rfl
@[simp] theorem State.setV_st (x : Reg) (b : Byte) : (s.setV x b).st = s.st := rfl
@[simp] theorem State.setV_fb (x : Reg) (b : Byte) : (s.setV x b).fb = s.fb := rfl
@[simp] theorem State.setV_key (x : Reg) (b : Byte) : (s.setV x b).key = s.key := rfl
@[simp] theorem State.setV_mem (x : Reg) (b : Byte) : (s.setV x b).mem = s.mem := rfl
@[simp] theorem State.setV_fault (x : Reg) (b : Byte) : (s.setV x b).fault = s.fault := rfl
@[simp] theorem State.setV_keyWait (x : Reg) (b : Byte) : (s.setV x b).keyWait = s.keyWait := rfl
@[simp] theorem State.setV_config (x : Reg) (b : Byte) : (s.setV x b).config = s.config := rfl
@[simp] theorem State.setV_schedule (x : Reg) (b : Byte) : (s.setV x b).schedule = s.schedule := rfl
@[simp] theorem State.setV_reply (x : Reg) (b : Byte) : (s.setV x b).reply = s.reply := rfl
@[simp] theorem State.setV_draws (x : Reg) (b : Byte) : (s.setV x b).draws = s.draws := rfl
@[simp] theorem State.setV_byteAt (x : Reg) (b : Byte) (c : Nat) : (s.setV x b).byteAt c = s.byteAt c := rfl
@[simp] theorem State.setV_pixel (x : Reg) (b : Byte) (r : Fin 32) (c : Fin 64) : (s.setV x b).pixel r c = s.pixel r c := rfl
@[simp] theorem State.setV_pressed (x : Reg) (b : Byte) (k : Key) : (s.setV x b).pressed k = s.pressed k := rfl

/-! `setI` -/

@[simp] theorem State.setI_v (w : Word) : (s.setI w).v = s.v := rfl
@[simp] theorem State.setI_i (w : Word) : (s.setI w).i = w := rfl
@[simp] theorem State.setI_pc (w : Word) : (s.setI w).pc = s.pc := rfl
@[simp] theorem State.setI_stack (w : Word) : (s.setI w).stack = s.stack := rfl
@[simp] theorem State.setI_sp (w : Word) : (s.setI w).sp = s.sp := rfl
@[simp] theorem State.setI_dt (w : Word) : (s.setI w).dt = s.dt := rfl
@[simp] theorem State.setI_st (w : Word) : (s.setI w).st = s.st := rfl
@[simp] theorem State.setI_fb (w : Word) : (s.setI w).fb = s.fb := rfl
@[simp] theorem State.setI_key (w : Word) : (s.setI w).key = s.key := rfl
@[simp] theorem State.setI_mem (w : Word) : (s.setI w).mem = s.mem := rfl
@[simp] theorem State.setI_fault (w : Word) : (s.setI w).fault = s.fault := rfl
@[simp] theorem State.setI_keyWait (w : Word) : (s.setI w).keyWait = s.keyWait := rfl
@[simp] theorem State.setI_config (w : Word) : (s.setI w).config = s.config := rfl
@[simp] theorem State.setI_schedule (w : Word) : (s.setI w).schedule = s.schedule := rfl
@[simp] theorem State.setI_reply (w : Word) : (s.setI w).reply = s.reply := rfl
@[simp] theorem State.setI_draws (w : Word) : (s.setI w).draws = s.draws := rfl
@[simp] theorem State.setI_getV (w : Word) (r : Reg) : (s.setI w).getV r = s.getV r := rfl
@[simp] theorem State.setI_byteAt (w : Word) (c : Nat) : (s.setI w).byteAt c = s.byteAt c := rfl
@[simp] theorem State.setI_pixel (w : Word) (r : Fin 32) (c : Fin 64) : (s.setI w).pixel r c = s.pixel r c := rfl
@[simp] theorem State.setI_pressed (w : Word) (k : Key) : (s.setI w).pressed k = s.pressed k := rfl

/-! `setPc` -/

@[simp] theorem State.setPc_v (w : Word) : (s.setPc w).v = s.v := rfl
@[simp] theorem State.setPc_i (w : Word) : (s.setPc w).i = s.i := rfl
@[simp] theorem State.setPc_pc (w : Word) : (s.setPc w).pc = w := rfl
@[simp] theorem State.setPc_stack (w : Word) : (s.setPc w).stack = s.stack := rfl
@[simp] theorem State.setPc_sp (w : Word) : (s.setPc w).sp = s.sp := rfl
@[simp] theorem State.setPc_dt (w : Word) : (s.setPc w).dt = s.dt := rfl
@[simp] theorem State.setPc_st (w : Word) : (s.setPc w).st = s.st := rfl
@[simp] theorem State.setPc_fb (w : Word) : (s.setPc w).fb = s.fb := rfl
@[simp] theorem State.setPc_key (w : Word) : (s.setPc w).key = s.key := rfl
@[simp] theorem State.setPc_mem (w : Word) : (s.setPc w).mem = s.mem := rfl
@[simp] theorem State.setPc_fault (w : Word) : (s.setPc w).fault = s.fault := rfl
@[simp] theorem State.setPc_keyWait (w : Word) : (s.setPc w).keyWait = s.keyWait := rfl
@[simp] theorem State.setPc_config (w : Word) : (s.setPc w).config = s.config := rfl
@[simp] theorem State.setPc_schedule (w : Word) : (s.setPc w).schedule = s.schedule := rfl
@[simp] theorem State.setPc_reply (w : Word) : (s.setPc w).reply = s.reply := rfl
@[simp] theorem State.setPc_draws (w : Word) : (s.setPc w).draws = s.draws := rfl
@[simp] theorem State.setPc_getV (w : Word) (r : Reg) : (s.setPc w).getV r = s.getV r := rfl
@[simp] theorem State.setPc_byteAt (w : Word) (c : Nat) : (s.setPc w).byteAt c = s.byteAt c := rfl
@[simp] theorem State.setPc_pixel (w : Word) (r : Fin 32) (c : Fin 64) : (s.setPc w).pixel r c = s.pixel r c := rfl
@[simp] theorem State.setPc_pressed (w : Word) (k : Key) : (s.setPc w).pressed k = s.pressed k := rfl

/-! `setDt` -/

@[simp] theorem State.setDt_v (b : Byte) : (s.setDt b).v = s.v := rfl
@[simp] theorem State.setDt_i (b : Byte) : (s.setDt b).i = s.i := rfl
@[simp] theorem State.setDt_pc (b : Byte) : (s.setDt b).pc = s.pc := rfl
@[simp] theorem State.setDt_stack (b : Byte) : (s.setDt b).stack = s.stack := rfl
@[simp] theorem State.setDt_sp (b : Byte) : (s.setDt b).sp = s.sp := rfl
@[simp] theorem State.setDt_dt (b : Byte) : (s.setDt b).dt = b := rfl
@[simp] theorem State.setDt_st (b : Byte) : (s.setDt b).st = s.st := rfl
@[simp] theorem State.setDt_fb (b : Byte) : (s.setDt b).fb = s.fb := rfl
@[simp] theorem State.setDt_key (b : Byte) : (s.setDt b).key = s.key := rfl
@[simp] theorem State.setDt_mem (b : Byte) : (s.setDt b).mem = s.mem := rfl
@[simp] theorem State.setDt_fault (b : Byte) : (s.setDt b).fault = s.fault := rfl
@[simp] theorem State.setDt_keyWait (b : Byte) : (s.setDt b).keyWait = s.keyWait := rfl
@[simp] theorem State.setDt_config (b : Byte) : (s.setDt b).config = s.config := rfl
@[simp] theorem State.setDt_schedule (b : Byte) : (s.setDt b).schedule = s.schedule := rfl
@[simp] theorem State.setDt_reply (b : Byte) : (s.setDt b).reply = s.reply := rfl
@[simp] theorem State.setDt_draws (b : Byte) : (s.setDt b).draws = s.draws := rfl
@[simp] theorem State.setDt_getV (b : Byte) (r : Reg) : (s.setDt b).getV r = s.getV r := rfl
@[simp] theorem State.setDt_byteAt (b : Byte) (c : Nat) : (s.setDt b).byteAt c = s.byteAt c := rfl
@[simp] theorem State.setDt_pixel (b : Byte) (r : Fin 32) (c : Fin 64) : (s.setDt b).pixel r c = s.pixel r c := rfl
@[simp] theorem State.setDt_pressed (b : Byte) (k : Key) : (s.setDt b).pressed k = s.pressed k := rfl

/-! `setSt` -/

@[simp] theorem State.setSt_v (b : Byte) : (s.setSt b).v = s.v := rfl
@[simp] theorem State.setSt_i (b : Byte) : (s.setSt b).i = s.i := rfl
@[simp] theorem State.setSt_pc (b : Byte) : (s.setSt b).pc = s.pc := rfl
@[simp] theorem State.setSt_stack (b : Byte) : (s.setSt b).stack = s.stack := rfl
@[simp] theorem State.setSt_sp (b : Byte) : (s.setSt b).sp = s.sp := rfl
@[simp] theorem State.setSt_dt (b : Byte) : (s.setSt b).dt = s.dt := rfl
@[simp] theorem State.setSt_st (b : Byte) : (s.setSt b).st = b := rfl
@[simp] theorem State.setSt_fb (b : Byte) : (s.setSt b).fb = s.fb := rfl
@[simp] theorem State.setSt_key (b : Byte) : (s.setSt b).key = s.key := rfl
@[simp] theorem State.setSt_mem (b : Byte) : (s.setSt b).mem = s.mem := rfl
@[simp] theorem State.setSt_fault (b : Byte) : (s.setSt b).fault = s.fault := rfl
@[simp] theorem State.setSt_keyWait (b : Byte) : (s.setSt b).keyWait = s.keyWait := rfl
@[simp] theorem State.setSt_config (b : Byte) : (s.setSt b).config = s.config := rfl
@[simp] theorem State.setSt_schedule (b : Byte) : (s.setSt b).schedule = s.schedule := rfl
@[simp] theorem State.setSt_reply (b : Byte) : (s.setSt b).reply = s.reply := rfl
@[simp] theorem State.setSt_draws (b : Byte) : (s.setSt b).draws = s.draws := rfl
@[simp] theorem State.setSt_getV (b : Byte) (r : Reg) : (s.setSt b).getV r = s.getV r := rfl
@[simp] theorem State.setSt_byteAt (b : Byte) (c : Nat) : (s.setSt b).byteAt c = s.byteAt c := rfl
@[simp] theorem State.setSt_pixel (b : Byte) (r : Fin 32) (c : Fin 64) : (s.setSt b).pixel r c = s.pixel r c := rfl
@[simp] theorem State.setSt_pressed (b : Byte) (k : Key) : (s.setSt b).pressed k = s.pressed k := rfl

/-! `setKeyWait` -/

@[simp] theorem State.setKeyWait_v (w : Option Key) : (s.setKeyWait w).v = s.v := rfl
@[simp] theorem State.setKeyWait_i (w : Option Key) : (s.setKeyWait w).i = s.i := rfl
@[simp] theorem State.setKeyWait_pc (w : Option Key) : (s.setKeyWait w).pc = s.pc := rfl
@[simp] theorem State.setKeyWait_stack (w : Option Key) : (s.setKeyWait w).stack = s.stack := rfl
@[simp] theorem State.setKeyWait_sp (w : Option Key) : (s.setKeyWait w).sp = s.sp := rfl
@[simp] theorem State.setKeyWait_dt (w : Option Key) : (s.setKeyWait w).dt = s.dt := rfl
@[simp] theorem State.setKeyWait_st (w : Option Key) : (s.setKeyWait w).st = s.st := rfl
@[simp] theorem State.setKeyWait_fb (w : Option Key) : (s.setKeyWait w).fb = s.fb := rfl
@[simp] theorem State.setKeyWait_key (w : Option Key) : (s.setKeyWait w).key = s.key := rfl
@[simp] theorem State.setKeyWait_mem (w : Option Key) : (s.setKeyWait w).mem = s.mem := rfl
@[simp] theorem State.setKeyWait_fault (w : Option Key) : (s.setKeyWait w).fault = s.fault := rfl
@[simp] theorem State.setKeyWait_keyWait (w : Option Key) : (s.setKeyWait w).keyWait = w := rfl
@[simp] theorem State.setKeyWait_config (w : Option Key) : (s.setKeyWait w).config = s.config := rfl
@[simp] theorem State.setKeyWait_schedule (w : Option Key) : (s.setKeyWait w).schedule = s.schedule := rfl
@[simp] theorem State.setKeyWait_reply (w : Option Key) : (s.setKeyWait w).reply = s.reply := rfl
@[simp] theorem State.setKeyWait_draws (w : Option Key) : (s.setKeyWait w).draws = s.draws := rfl
@[simp] theorem State.setKeyWait_getV (w : Option Key) (r : Reg) : (s.setKeyWait w).getV r = s.getV r := rfl
@[simp] theorem State.setKeyWait_byteAt (w : Option Key) (c : Nat) : (s.setKeyWait w).byteAt c = s.byteAt c := rfl
@[simp] theorem State.setKeyWait_pixel (w : Option Key) (r : Fin 32) (c : Fin 64) : (s.setKeyWait w).pixel r c = s.pixel r c := rfl
@[simp] theorem State.setKeyWait_pressed (w : Option Key) (k : Key) : (s.setKeyWait w).pressed k = s.pressed k := rfl

/-! `setFb` -/

@[simp] theorem State.setFb_v (f : Framebuffer) : (s.setFb f).v = s.v := rfl
@[simp] theorem State.setFb_i (f : Framebuffer) : (s.setFb f).i = s.i := rfl
@[simp] theorem State.setFb_pc (f : Framebuffer) : (s.setFb f).pc = s.pc := rfl
@[simp] theorem State.setFb_stack (f : Framebuffer) : (s.setFb f).stack = s.stack := rfl
@[simp] theorem State.setFb_sp (f : Framebuffer) : (s.setFb f).sp = s.sp := rfl
@[simp] theorem State.setFb_dt (f : Framebuffer) : (s.setFb f).dt = s.dt := rfl
@[simp] theorem State.setFb_st (f : Framebuffer) : (s.setFb f).st = s.st := rfl
@[simp] theorem State.setFb_fb (f : Framebuffer) : (s.setFb f).fb = f := rfl
@[simp] theorem State.setFb_key (f : Framebuffer) : (s.setFb f).key = s.key := rfl
@[simp] theorem State.setFb_mem (f : Framebuffer) : (s.setFb f).mem = s.mem := rfl
@[simp] theorem State.setFb_fault (f : Framebuffer) : (s.setFb f).fault = s.fault := rfl
@[simp] theorem State.setFb_keyWait (f : Framebuffer) : (s.setFb f).keyWait = s.keyWait := rfl
@[simp] theorem State.setFb_config (f : Framebuffer) : (s.setFb f).config = s.config := rfl
@[simp] theorem State.setFb_schedule (f : Framebuffer) : (s.setFb f).schedule = s.schedule := rfl
@[simp] theorem State.setFb_reply (f : Framebuffer) : (s.setFb f).reply = s.reply := rfl
@[simp] theorem State.setFb_draws (f : Framebuffer) : (s.setFb f).draws = s.draws := rfl
@[simp] theorem State.setFb_getV (f : Framebuffer) (r : Reg) : (s.setFb f).getV r = s.getV r := rfl
@[simp] theorem State.setFb_byteAt (f : Framebuffer) (c : Nat) : (s.setFb f).byteAt c = s.byteAt c := rfl
@[simp] theorem State.setFb_pressed (f : Framebuffer) (k : Key) : (s.setFb f).pressed k = s.pressed k := rfl

/-! `push` -/

@[simp] theorem State.push_v (a : Word) (h : s.sp.val < 16) : (s.push a h).v = s.v := rfl
@[simp] theorem State.push_i (a : Word) (h : s.sp.val < 16) : (s.push a h).i = s.i := rfl
@[simp] theorem State.push_pc (a : Word) (h : s.sp.val < 16) : (s.push a h).pc = s.pc := rfl
@[simp] theorem State.push_stack (a : Word) (h : s.sp.val < 16) : (s.push a h).stack = s.stack.set s.sp.val a := rfl
@[simp] theorem State.push_sp (a : Word) (h : s.sp.val < 16) : (s.push a h).sp = ⟨s.sp.val + 1, Nat.succ_lt_succ h⟩ := rfl
@[simp] theorem State.push_dt (a : Word) (h : s.sp.val < 16) : (s.push a h).dt = s.dt := rfl
@[simp] theorem State.push_st (a : Word) (h : s.sp.val < 16) : (s.push a h).st = s.st := rfl
@[simp] theorem State.push_fb (a : Word) (h : s.sp.val < 16) : (s.push a h).fb = s.fb := rfl
@[simp] theorem State.push_key (a : Word) (h : s.sp.val < 16) : (s.push a h).key = s.key := rfl
@[simp] theorem State.push_mem (a : Word) (h : s.sp.val < 16) : (s.push a h).mem = s.mem := rfl
@[simp] theorem State.push_fault (a : Word) (h : s.sp.val < 16) : (s.push a h).fault = s.fault := rfl
@[simp] theorem State.push_keyWait (a : Word) (h : s.sp.val < 16) : (s.push a h).keyWait = s.keyWait := rfl
@[simp] theorem State.push_config (a : Word) (h : s.sp.val < 16) : (s.push a h).config = s.config := rfl
@[simp] theorem State.push_schedule (a : Word) (h : s.sp.val < 16) : (s.push a h).schedule = s.schedule := rfl
@[simp] theorem State.push_reply (a : Word) (h : s.sp.val < 16) : (s.push a h).reply = s.reply := rfl
@[simp] theorem State.push_draws (a : Word) (h : s.sp.val < 16) : (s.push a h).draws = s.draws := rfl
@[simp] theorem State.push_getV (a : Word) (h : s.sp.val < 16) (r : Reg) : (s.push a h).getV r = s.getV r := rfl
@[simp] theorem State.push_byteAt (a : Word) (h : s.sp.val < 16) (c : Nat) : (s.push a h).byteAt c = s.byteAt c := rfl
@[simp] theorem State.push_pixel (a : Word) (h : s.sp.val < 16) (r : Fin 32) (c : Fin 64) : (s.push a h).pixel r c = s.pixel r c := rfl
@[simp] theorem State.push_pressed (a : Word) (h : s.sp.val < 16) (k : Key) : (s.push a h).pressed k = s.pressed k := rfl

/-! `drop` -/

@[simp] theorem State.drop_v : (s.drop).v = s.v := rfl
@[simp] theorem State.drop_i : (s.drop).i = s.i := rfl
@[simp] theorem State.drop_pc : (s.drop).pc = s.pc := rfl
@[simp] theorem State.drop_stack : (s.drop).stack = s.stack := rfl
@[simp] theorem State.drop_sp : (s.drop).sp = ⟨s.sp.val - 1, Nat.lt_of_le_of_lt (Nat.sub_le _ _) s.sp.isLt⟩ := rfl
@[simp] theorem State.drop_dt : (s.drop).dt = s.dt := rfl
@[simp] theorem State.drop_st : (s.drop).st = s.st := rfl
@[simp] theorem State.drop_fb : (s.drop).fb = s.fb := rfl
@[simp] theorem State.drop_key : (s.drop).key = s.key := rfl
@[simp] theorem State.drop_mem : (s.drop).mem = s.mem := rfl
@[simp] theorem State.drop_fault : (s.drop).fault = s.fault := rfl
@[simp] theorem State.drop_keyWait : (s.drop).keyWait = s.keyWait := rfl
@[simp] theorem State.drop_config : (s.drop).config = s.config := rfl
@[simp] theorem State.drop_schedule : (s.drop).schedule = s.schedule := rfl
@[simp] theorem State.drop_reply : (s.drop).reply = s.reply := rfl
@[simp] theorem State.drop_draws : (s.drop).draws = s.draws := rfl
@[simp] theorem State.drop_getV (r : Reg) : (s.drop).getV r = s.getV r := rfl
@[simp] theorem State.drop_byteAt (c : Nat) : (s.drop).byteAt c = s.byteAt c := rfl
@[simp] theorem State.drop_pixel (r : Fin 32) (c : Fin 64) : (s.drop).pixel r c = s.pixel r c := rfl
@[simp] theorem State.drop_pressed (k : Key) : (s.drop).pressed k = s.pressed k := rfl

/-! `putBytes` -/

@[simp] theorem State.putBytes_v (a : Nat) (bs : List Byte) : (s.putBytes a bs).v = s.v := rfl
@[simp] theorem State.putBytes_i (a : Nat) (bs : List Byte) : (s.putBytes a bs).i = s.i := rfl
@[simp] theorem State.putBytes_pc (a : Nat) (bs : List Byte) : (s.putBytes a bs).pc = s.pc := rfl
@[simp] theorem State.putBytes_stack (a : Nat) (bs : List Byte) : (s.putBytes a bs).stack = s.stack := rfl
@[simp] theorem State.putBytes_sp (a : Nat) (bs : List Byte) : (s.putBytes a bs).sp = s.sp := rfl
@[simp] theorem State.putBytes_dt (a : Nat) (bs : List Byte) : (s.putBytes a bs).dt = s.dt := rfl
@[simp] theorem State.putBytes_st (a : Nat) (bs : List Byte) : (s.putBytes a bs).st = s.st := rfl
@[simp] theorem State.putBytes_fb (a : Nat) (bs : List Byte) : (s.putBytes a bs).fb = s.fb := rfl
@[simp] theorem State.putBytes_key (a : Nat) (bs : List Byte) : (s.putBytes a bs).key = s.key := rfl
@[simp] theorem State.putBytes_mem (a : Nat) (bs : List Byte) : (s.putBytes a bs).mem = Memory.writeAll s.config.fontBase s.mem a bs := rfl
@[simp] theorem State.putBytes_fault (a : Nat) (bs : List Byte) : (s.putBytes a bs).fault = s.fault := rfl
@[simp] theorem State.putBytes_keyWait (a : Nat) (bs : List Byte) : (s.putBytes a bs).keyWait = s.keyWait := rfl
@[simp] theorem State.putBytes_config (a : Nat) (bs : List Byte) : (s.putBytes a bs).config = s.config := rfl
@[simp] theorem State.putBytes_schedule (a : Nat) (bs : List Byte) : (s.putBytes a bs).schedule = s.schedule := rfl
@[simp] theorem State.putBytes_reply (a : Nat) (bs : List Byte) : (s.putBytes a bs).reply = s.reply := rfl
@[simp] theorem State.putBytes_draws (a : Nat) (bs : List Byte) : (s.putBytes a bs).draws = s.draws := rfl
@[simp] theorem State.putBytes_getV (a : Nat) (bs : List Byte) (r : Reg) : (s.putBytes a bs).getV r = s.getV r := rfl
@[simp] theorem State.putBytes_pixel (a : Nat) (bs : List Byte) (r : Fin 32) (c : Fin 64) : (s.putBytes a bs).pixel r c = s.pixel r c := rfl
@[simp] theorem State.putBytes_pressed (a : Nat) (bs : List Byte) (k : Key) : (s.putBytes a bs).pressed k = s.pressed k := rfl

/-! `drawn` -/

@[simp] theorem State.drawn_v : (s.drawn).v = s.v := rfl
@[simp] theorem State.drawn_i : (s.drawn).i = s.i := rfl
@[simp] theorem State.drawn_pc : (s.drawn).pc = s.pc := rfl
@[simp] theorem State.drawn_stack : (s.drawn).stack = s.stack := rfl
@[simp] theorem State.drawn_sp : (s.drawn).sp = s.sp := rfl
@[simp] theorem State.drawn_dt : (s.drawn).dt = s.dt := rfl
@[simp] theorem State.drawn_st : (s.drawn).st = s.st := rfl
@[simp] theorem State.drawn_fb : (s.drawn).fb = s.fb := rfl
@[simp] theorem State.drawn_key : (s.drawn).key = s.key := rfl
@[simp] theorem State.drawn_mem : (s.drawn).mem = s.mem := rfl
@[simp] theorem State.drawn_fault : (s.drawn).fault = s.fault := rfl
@[simp] theorem State.drawn_keyWait : (s.drawn).keyWait = s.keyWait := rfl
@[simp] theorem State.drawn_config : (s.drawn).config = s.config := rfl
@[simp] theorem State.drawn_schedule : (s.drawn).schedule = s.schedule := rfl
@[simp] theorem State.drawn_reply : (s.drawn).reply = s.reply := rfl
@[simp] theorem State.drawn_draws : (s.drawn).draws = s.draws + 1 := rfl
@[simp] theorem State.drawn_getV (r : Reg) : (s.drawn).getV r = s.getV r := rfl
@[simp] theorem State.drawn_byteAt (c : Nat) : (s.drawn).byteAt c = s.byteAt c := rfl
@[simp] theorem State.drawn_pixel (r : Fin 32) (c : Fin 64) : (s.drawn).pixel r c = s.pixel r c := rfl
@[simp] theorem State.drawn_pressed (k : Key) : (s.drawn).pressed k = s.pressed k := rfl

/-! `loadRegs` -/

@[simp] theorem State.loadRegs_v (x : Reg) : (s.loadRegs x).v = Vector.ofFn fun r : Fin 16 => if r ≤ x then s.byteAt (s.i.toNat + r.val) else s.getV r := rfl
@[simp] theorem State.loadRegs_i (x : Reg) : (s.loadRegs x).i = s.i := rfl
@[simp] theorem State.loadRegs_pc (x : Reg) : (s.loadRegs x).pc = s.pc := rfl
@[simp] theorem State.loadRegs_stack (x : Reg) : (s.loadRegs x).stack = s.stack := rfl
@[simp] theorem State.loadRegs_sp (x : Reg) : (s.loadRegs x).sp = s.sp := rfl
@[simp] theorem State.loadRegs_dt (x : Reg) : (s.loadRegs x).dt = s.dt := rfl
@[simp] theorem State.loadRegs_st (x : Reg) : (s.loadRegs x).st = s.st := rfl
@[simp] theorem State.loadRegs_fb (x : Reg) : (s.loadRegs x).fb = s.fb := rfl
@[simp] theorem State.loadRegs_key (x : Reg) : (s.loadRegs x).key = s.key := rfl
@[simp] theorem State.loadRegs_mem (x : Reg) : (s.loadRegs x).mem = s.mem := rfl
@[simp] theorem State.loadRegs_fault (x : Reg) : (s.loadRegs x).fault = s.fault := rfl
@[simp] theorem State.loadRegs_keyWait (x : Reg) : (s.loadRegs x).keyWait = s.keyWait := rfl
@[simp] theorem State.loadRegs_config (x : Reg) : (s.loadRegs x).config = s.config := rfl
@[simp] theorem State.loadRegs_schedule (x : Reg) : (s.loadRegs x).schedule = s.schedule := rfl
@[simp] theorem State.loadRegs_reply (x : Reg) : (s.loadRegs x).reply = s.reply := rfl
@[simp] theorem State.loadRegs_draws (x : Reg) : (s.loadRegs x).draws = s.draws := rfl
@[simp] theorem State.loadRegs_byteAt (x : Reg) (c : Nat) : (s.loadRegs x).byteAt c = s.byteAt c := rfl
@[simp] theorem State.loadRegs_pixel (x : Reg) (r : Fin 32) (c : Fin 64) : (s.loadRegs x).pixel r c = s.pixel r c := rfl
@[simp] theorem State.loadRegs_pressed (x : Reg) (k : Key) : (s.loadRegs x).pressed k = s.pressed k := rfl

/-! `rewind` -/

@[simp] theorem State.rewind_v : (s.rewind).v = s.v := rfl
@[simp] theorem State.rewind_i : (s.rewind).i = s.i := rfl
@[simp] theorem State.rewind_pc : (s.rewind).pc = s.pc - 2 := rfl
@[simp] theorem State.rewind_stack : (s.rewind).stack = s.stack := rfl
@[simp] theorem State.rewind_sp : (s.rewind).sp = s.sp := rfl
@[simp] theorem State.rewind_dt : (s.rewind).dt = s.dt := rfl
@[simp] theorem State.rewind_st : (s.rewind).st = s.st := rfl
@[simp] theorem State.rewind_fb : (s.rewind).fb = s.fb := rfl
@[simp] theorem State.rewind_key : (s.rewind).key = s.key := rfl
@[simp] theorem State.rewind_mem : (s.rewind).mem = s.mem := rfl
@[simp] theorem State.rewind_fault : (s.rewind).fault = s.fault := rfl
@[simp] theorem State.rewind_keyWait : (s.rewind).keyWait = s.keyWait := rfl
@[simp] theorem State.rewind_config : (s.rewind).config = s.config := rfl
@[simp] theorem State.rewind_schedule : (s.rewind).schedule = s.schedule := rfl
@[simp] theorem State.rewind_reply : (s.rewind).reply = s.reply := rfl
@[simp] theorem State.rewind_draws : (s.rewind).draws = s.draws := rfl
@[simp] theorem State.rewind_getV (r : Reg) : (s.rewind).getV r = s.getV r := rfl
@[simp] theorem State.rewind_byteAt (c : Nat) : (s.rewind).byteAt c = s.byteAt c := rfl
@[simp] theorem State.rewind_pixel (r : Fin 32) (c : Fin 64) : (s.rewind).pixel r c = s.pixel r c := rfl
@[simp] theorem State.rewind_pressed (k : Key) : (s.rewind).pressed k = s.pressed k := rfl

/-! `setKeyV` -/

@[simp] theorem State.setKeyV_v (x : Reg) (w : Key) : (s.setKeyV x w).v = s.v.set x (BitVec.ofNat 8 w.val) := rfl
@[simp] theorem State.setKeyV_i (x : Reg) (w : Key) : (s.setKeyV x w).i = s.i := rfl
@[simp] theorem State.setKeyV_pc (x : Reg) (w : Key) : (s.setKeyV x w).pc = s.pc := rfl
@[simp] theorem State.setKeyV_stack (x : Reg) (w : Key) : (s.setKeyV x w).stack = s.stack := rfl
@[simp] theorem State.setKeyV_sp (x : Reg) (w : Key) : (s.setKeyV x w).sp = s.sp := rfl
@[simp] theorem State.setKeyV_dt (x : Reg) (w : Key) : (s.setKeyV x w).dt = s.dt := rfl
@[simp] theorem State.setKeyV_st (x : Reg) (w : Key) : (s.setKeyV x w).st = s.st := rfl
@[simp] theorem State.setKeyV_fb (x : Reg) (w : Key) : (s.setKeyV x w).fb = s.fb := rfl
@[simp] theorem State.setKeyV_key (x : Reg) (w : Key) : (s.setKeyV x w).key = s.key := rfl
@[simp] theorem State.setKeyV_mem (x : Reg) (w : Key) : (s.setKeyV x w).mem = s.mem := rfl
@[simp] theorem State.setKeyV_fault (x : Reg) (w : Key) : (s.setKeyV x w).fault = s.fault := rfl
@[simp] theorem State.setKeyV_keyWait (x : Reg) (w : Key) : (s.setKeyV x w).keyWait = s.keyWait := rfl
@[simp] theorem State.setKeyV_config (x : Reg) (w : Key) : (s.setKeyV x w).config = s.config := rfl
@[simp] theorem State.setKeyV_schedule (x : Reg) (w : Key) : (s.setKeyV x w).schedule = s.schedule := rfl
@[simp] theorem State.setKeyV_reply (x : Reg) (w : Key) : (s.setKeyV x w).reply = s.reply := rfl
@[simp] theorem State.setKeyV_draws (x : Reg) (w : Key) : (s.setKeyV x w).draws = s.draws := rfl
@[simp] theorem State.setKeyV_byteAt (x : Reg) (w : Key) (c : Nat) : (s.setKeyV x w).byteAt c = s.byteAt c := rfl
@[simp] theorem State.setKeyV_pixel (x : Reg) (w : Key) (r : Fin 32) (c : Fin 64) : (s.setKeyV x w).pixel r c = s.pixel r c := rfl
@[simp] theorem State.setKeyV_pressed (x : Reg) (w : Key) (k : Key) : (s.setKeyV x w).pressed k = s.pressed k := rfl

/-! `setFlag` -/

@[simp] theorem State.setFlag_v (f : Bool) : (s.setFlag f).v = s.v.set VF (if f then 1 else 0) := rfl
@[simp] theorem State.setFlag_i (f : Bool) : (s.setFlag f).i = s.i := rfl
@[simp] theorem State.setFlag_pc (f : Bool) : (s.setFlag f).pc = s.pc := rfl
@[simp] theorem State.setFlag_stack (f : Bool) : (s.setFlag f).stack = s.stack := rfl
@[simp] theorem State.setFlag_sp (f : Bool) : (s.setFlag f).sp = s.sp := rfl
@[simp] theorem State.setFlag_dt (f : Bool) : (s.setFlag f).dt = s.dt := rfl
@[simp] theorem State.setFlag_st (f : Bool) : (s.setFlag f).st = s.st := rfl
@[simp] theorem State.setFlag_fb (f : Bool) : (s.setFlag f).fb = s.fb := rfl
@[simp] theorem State.setFlag_key (f : Bool) : (s.setFlag f).key = s.key := rfl
@[simp] theorem State.setFlag_mem (f : Bool) : (s.setFlag f).mem = s.mem := rfl
@[simp] theorem State.setFlag_fault (f : Bool) : (s.setFlag f).fault = s.fault := rfl
@[simp] theorem State.setFlag_keyWait (f : Bool) : (s.setFlag f).keyWait = s.keyWait := rfl
@[simp] theorem State.setFlag_config (f : Bool) : (s.setFlag f).config = s.config := rfl
@[simp] theorem State.setFlag_schedule (f : Bool) : (s.setFlag f).schedule = s.schedule := rfl
@[simp] theorem State.setFlag_reply (f : Bool) : (s.setFlag f).reply = s.reply := rfl
@[simp] theorem State.setFlag_draws (f : Bool) : (s.setFlag f).draws = s.draws := rfl
@[simp] theorem State.setFlag_byteAt (f : Bool) (c : Nat) : (s.setFlag f).byteAt c = s.byteAt c := rfl
@[simp] theorem State.setFlag_pixel (f : Bool) (r : Fin 32) (c : Fin 64) : (s.setFlag f).pixel r c = s.pixel r c := rfl
@[simp] theorem State.setFlag_pressed (f : Bool) (k : Key) : (s.setFlag f).pressed k = s.pressed k := rfl

/-! `setKey` -/

@[simp] theorem State.setKey_v (w : Keys) : (s.setKey w).v = s.v := rfl
@[simp] theorem State.setKey_i (w : Keys) : (s.setKey w).i = s.i := rfl
@[simp] theorem State.setKey_pc (w : Keys) : (s.setKey w).pc = s.pc := rfl
@[simp] theorem State.setKey_stack (w : Keys) : (s.setKey w).stack = s.stack := rfl
@[simp] theorem State.setKey_sp (w : Keys) : (s.setKey w).sp = s.sp := rfl
@[simp] theorem State.setKey_dt (w : Keys) : (s.setKey w).dt = s.dt := rfl
@[simp] theorem State.setKey_st (w : Keys) : (s.setKey w).st = s.st := rfl
@[simp] theorem State.setKey_fb (w : Keys) : (s.setKey w).fb = s.fb := rfl
@[simp] theorem State.setKey_key (w : Keys) : (s.setKey w).key = w := rfl
@[simp] theorem State.setKey_mem (w : Keys) : (s.setKey w).mem = s.mem := rfl
@[simp] theorem State.setKey_fault (w : Keys) : (s.setKey w).fault = s.fault := rfl
@[simp] theorem State.setKey_keyWait (w : Keys) : (s.setKey w).keyWait = s.keyWait := rfl
@[simp] theorem State.setKey_config (w : Keys) : (s.setKey w).config = s.config := rfl
@[simp] theorem State.setKey_schedule (w : Keys) : (s.setKey w).schedule = s.schedule := rfl
@[simp] theorem State.setKey_reply (w : Keys) : (s.setKey w).reply = s.reply := rfl
@[simp] theorem State.setKey_draws (w : Keys) : (s.setKey w).draws = s.draws := rfl
@[simp] theorem State.setKey_getV (w : Keys) (r : Reg) : (s.setKey w).getV r = s.getV r := rfl
@[simp] theorem State.setKey_byteAt (w : Keys) (c : Nat) : (s.setKey w).byteAt c = s.byteAt c := rfl
@[simp] theorem State.setKey_pixel (w : Keys) (r : Fin 32) (c : Fin 64) : (s.setKey w).pixel r c = s.pixel r c := rfl
/-! `setReply` -/

@[simp] theorem State.setReply_v (q : Reply) : (s.setReply q).v = s.v := rfl
@[simp] theorem State.setReply_i (q : Reply) : (s.setReply q).i = s.i := rfl
@[simp] theorem State.setReply_pc (q : Reply) : (s.setReply q).pc = s.pc := rfl
@[simp] theorem State.setReply_stack (q : Reply) : (s.setReply q).stack = s.stack := rfl
@[simp] theorem State.setReply_sp (q : Reply) : (s.setReply q).sp = s.sp := rfl
@[simp] theorem State.setReply_dt (q : Reply) : (s.setReply q).dt = s.dt := rfl
@[simp] theorem State.setReply_st (q : Reply) : (s.setReply q).st = s.st := rfl
@[simp] theorem State.setReply_fb (q : Reply) : (s.setReply q).fb = s.fb := rfl
@[simp] theorem State.setReply_key (q : Reply) : (s.setReply q).key = s.key := rfl
@[simp] theorem State.setReply_mem (q : Reply) : (s.setReply q).mem = s.mem := rfl
@[simp] theorem State.setReply_fault (q : Reply) : (s.setReply q).fault = s.fault := rfl
@[simp] theorem State.setReply_keyWait (q : Reply) : (s.setReply q).keyWait = s.keyWait := rfl
@[simp] theorem State.setReply_config (q : Reply) : (s.setReply q).config = s.config := rfl
@[simp] theorem State.setReply_schedule (q : Reply) : (s.setReply q).schedule = s.schedule := rfl
@[simp] theorem State.setReply_reply (q : Reply) : (s.setReply q).reply = q := rfl
@[simp] theorem State.setReply_draws (q : Reply) : (s.setReply q).draws = s.draws := rfl
@[simp] theorem State.setReply_getV (q : Reply) (r : Reg) : (s.setReply q).getV r = s.getV r := rfl
@[simp] theorem State.setReply_byteAt (q : Reply) (c : Nat) : (s.setReply q).byteAt c = s.byteAt c := rfl
@[simp] theorem State.setReply_pixel (q : Reply) (r : Fin 32) (c : Fin 64) : (s.setReply q).pixel r c = s.pixel r c := rfl
@[simp] theorem State.setReply_pressed (q : Reply) (k : Key) : (s.setReply q).pressed k = s.pressed k := rfl

/-! `dequeue` -/

@[simp] theorem State.dequeue_v : (s.dequeue).v = s.v := rfl
@[simp] theorem State.dequeue_i : (s.dequeue).i = s.i := rfl
@[simp] theorem State.dequeue_pc : (s.dequeue).pc = s.pc := rfl
@[simp] theorem State.dequeue_stack : (s.dequeue).stack = s.stack := rfl
@[simp] theorem State.dequeue_sp : (s.dequeue).sp = s.sp := rfl
@[simp] theorem State.dequeue_dt : (s.dequeue).dt = s.dt := rfl
@[simp] theorem State.dequeue_st : (s.dequeue).st = s.st := rfl
@[simp] theorem State.dequeue_fb : (s.dequeue).fb = s.fb := rfl
@[simp] theorem State.dequeue_key : (s.dequeue).key = s.key := rfl
@[simp] theorem State.dequeue_mem : (s.dequeue).mem = s.mem := rfl
@[simp] theorem State.dequeue_fault : (s.dequeue).fault = s.fault := rfl
@[simp] theorem State.dequeue_keyWait : (s.dequeue).keyWait = s.keyWait := rfl
@[simp] theorem State.dequeue_config : (s.dequeue).config = s.config := rfl
@[simp] theorem State.dequeue_schedule : (s.dequeue).schedule = s.schedule.tail := rfl
@[simp] theorem State.dequeue_reply : (s.dequeue).reply = s.reply := rfl
@[simp] theorem State.dequeue_draws : (s.dequeue).draws = s.draws := rfl
@[simp] theorem State.dequeue_getV (r : Reg) : (s.dequeue).getV r = s.getV r := rfl
@[simp] theorem State.dequeue_byteAt (c : Nat) : (s.dequeue).byteAt c = s.byteAt c := rfl
@[simp] theorem State.dequeue_pixel (r : Fin 32) (c : Fin 64) : (s.dequeue).pixel r c = s.pixel r c := rfl
@[simp] theorem State.dequeue_pressed (k : Key) : (s.dequeue).pressed k = s.pressed k := rfl

/-! `skipIf` and `setIndexFlag`, which may do nothing -/

@[simp] theorem State.skipIf_v (c : Bool) : (s.skipIf c).v = s.v := by
  unfold State.skipIf; split <;> simp_all
@[simp] theorem State.skipIf_i (c : Bool) : (s.skipIf c).i = s.i := by
  unfold State.skipIf; split <;> simp_all
@[simp] theorem State.skipIf_pc (c : Bool) : (s.skipIf c).pc = if c then s.pc + 2 else s.pc := by
  unfold State.skipIf; split <;> simp_all
@[simp] theorem State.skipIf_stack (c : Bool) : (s.skipIf c).stack = s.stack := by
  unfold State.skipIf; split <;> simp_all
@[simp] theorem State.skipIf_sp (c : Bool) : (s.skipIf c).sp = s.sp := by
  unfold State.skipIf; split <;> simp_all
@[simp] theorem State.skipIf_dt (c : Bool) : (s.skipIf c).dt = s.dt := by
  unfold State.skipIf; split <;> simp_all
@[simp] theorem State.skipIf_st (c : Bool) : (s.skipIf c).st = s.st := by
  unfold State.skipIf; split <;> simp_all
@[simp] theorem State.skipIf_fb (c : Bool) : (s.skipIf c).fb = s.fb := by
  unfold State.skipIf; split <;> simp_all
@[simp] theorem State.skipIf_key (c : Bool) : (s.skipIf c).key = s.key := by
  unfold State.skipIf; split <;> simp_all
@[simp] theorem State.skipIf_mem (c : Bool) : (s.skipIf c).mem = s.mem := by
  unfold State.skipIf; split <;> simp_all
@[simp] theorem State.skipIf_fault (c : Bool) : (s.skipIf c).fault = s.fault := by
  unfold State.skipIf; split <;> simp_all
@[simp] theorem State.skipIf_keyWait (c : Bool) : (s.skipIf c).keyWait = s.keyWait := by
  unfold State.skipIf; split <;> simp_all
@[simp] theorem State.skipIf_config (c : Bool) : (s.skipIf c).config = s.config := by
  unfold State.skipIf; split <;> simp_all
@[simp] theorem State.skipIf_schedule (c : Bool) : (s.skipIf c).schedule = s.schedule := by
  unfold State.skipIf; split <;> simp_all
@[simp] theorem State.skipIf_reply (c : Bool) : (s.skipIf c).reply = s.reply := by
  unfold State.skipIf; split <;> simp_all
@[simp] theorem State.skipIf_draws (c : Bool) : (s.skipIf c).draws = s.draws := by
  unfold State.skipIf; split <;> simp_all
@[simp] theorem State.skipIf_getV (c : Bool) (r : Reg) : (s.skipIf c).getV r = s.getV r := by
  unfold State.skipIf; split <;> rfl
@[simp] theorem State.skipIf_byteAt (c : Bool) (a : Nat) : (s.skipIf c).byteAt a = s.byteAt a := by
  unfold State.skipIf; split <;> rfl

@[simp] theorem State.setIndexFlag_v (f : Bool) : (s.setIndexFlag f).v = if s.config.addISetsVf then s.v.set VF (if f then 1 else 0) else s.v := by
  unfold State.setIndexFlag; split <;> simp_all
@[simp] theorem State.setIndexFlag_i (f : Bool) : (s.setIndexFlag f).i = s.i := by
  unfold State.setIndexFlag; split <;> simp_all
@[simp] theorem State.setIndexFlag_pc (f : Bool) : (s.setIndexFlag f).pc = s.pc := by
  unfold State.setIndexFlag; split <;> simp_all
@[simp] theorem State.setIndexFlag_stack (f : Bool) : (s.setIndexFlag f).stack = s.stack := by
  unfold State.setIndexFlag; split <;> simp_all
@[simp] theorem State.setIndexFlag_sp (f : Bool) : (s.setIndexFlag f).sp = s.sp := by
  unfold State.setIndexFlag; split <;> simp_all
@[simp] theorem State.setIndexFlag_dt (f : Bool) : (s.setIndexFlag f).dt = s.dt := by
  unfold State.setIndexFlag; split <;> simp_all
@[simp] theorem State.setIndexFlag_st (f : Bool) : (s.setIndexFlag f).st = s.st := by
  unfold State.setIndexFlag; split <;> simp_all
@[simp] theorem State.setIndexFlag_fb (f : Bool) : (s.setIndexFlag f).fb = s.fb := by
  unfold State.setIndexFlag; split <;> simp_all
@[simp] theorem State.setIndexFlag_key (f : Bool) : (s.setIndexFlag f).key = s.key := by
  unfold State.setIndexFlag; split <;> simp_all
@[simp] theorem State.setIndexFlag_mem (f : Bool) : (s.setIndexFlag f).mem = s.mem := by
  unfold State.setIndexFlag; split <;> simp_all
@[simp] theorem State.setIndexFlag_fault (f : Bool) : (s.setIndexFlag f).fault = s.fault := by
  unfold State.setIndexFlag; split <;> simp_all
@[simp] theorem State.setIndexFlag_keyWait (f : Bool) : (s.setIndexFlag f).keyWait = s.keyWait := by
  unfold State.setIndexFlag; split <;> simp_all
@[simp] theorem State.setIndexFlag_config (f : Bool) : (s.setIndexFlag f).config = s.config := by
  unfold State.setIndexFlag; split <;> simp_all
@[simp] theorem State.setIndexFlag_schedule (f : Bool) : (s.setIndexFlag f).schedule = s.schedule := by
  unfold State.setIndexFlag; split <;> simp_all
@[simp] theorem State.setIndexFlag_reply (f : Bool) : (s.setIndexFlag f).reply = s.reply := by
  unfold State.setIndexFlag; split <;> simp_all
@[simp] theorem State.setIndexFlag_draws (f : Bool) : (s.setIndexFlag f).draws = s.draws := by
  unfold State.setIndexFlag; split <;> simp_all
@[simp] theorem State.setIndexFlag_byteAt (f : Bool) (a : Nat) : (s.setIndexFlag f).byteAt a = s.byteAt a := by
  unfold State.setIndexFlag; split <;> rfl

/-! Registers: what a read gives after a write -/

/-- A register read after a write of the same or of another register. -/
theorem State.getV_setV (x r : Reg) (b : Byte) : (s.setV x b).getV r = if x = r then b else s.getV r := by
  simp only [State.getV, State.setV, Fin.getElem_fin, Vector.getElem_set, Fin.ext_iff]

@[simp] theorem State.getV_setV_self (x : Reg) (b : Byte) : (s.setV x b).getV x = b := by simp [State.getV_setV]

theorem State.getV_setV_ne {x r : Reg} (h : r ≠ x) (b : Byte) : (s.setV x b).getV r = s.getV r := by
  simp [State.getV_setV, h.symm]

theorem State.getV_setFlag (r : Reg) (f : Bool) :
    (s.setFlag f).getV r = if VF = r then (if f then 1 else 0) else s.getV r := State.getV_setV s VF r _

theorem State.getV_setKeyV (x r : Reg) (k : Key) :
    (s.setKeyV x k).getV r = if x = r then BitVec.ofNat 8 k.val else s.getV r := State.getV_setV s x r _

/-- A register after `LD_VX_MI`. -/
theorem State.getV_loadRegs (x r : Reg) :
    (s.loadRegs x).getV r = if r ≤ x then s.byteAt (s.i.toNat + r.val) else s.getV r := by
  simp [State.getV, State.loadRegs]

/-- The registers `LD_MI_VX` stores, by index. -/
theorem State.regsUpTo_getElem? (x : Reg) (k : Nat) :
    (s.regsUpTo x)[k]? = if h : k ≤ x.val then some (s.getV ⟨k, by omega⟩) else none := by
  unfold State.regsUpTo State.getV
  split
  · rw [List.getElem?_take_of_lt (by omega)]
    simp [show k < 16 by omega]
  · simp [List.getElem?_take]; omega

@[simp] theorem State.regsUpTo_length (x : Reg) : (s.regsUpTo x).length = x.val + 1 := by
  simp [State.regsUpTo]

end Sys2Proof.Machine
end

