-- ==== Sys2Proof/Laws/Memory.lean ====
section
/-! SUPPORT. The laws of memory: a read after a write, and that every memory operation keeps the canonical form. -/

namespace Sys2Proof.Machine

theorem Memory.find_filter (m : Memory) (a c : Nat) :
    Memory.find (m.filter (fun d => d.1 != a)) c = if c = a then none else Memory.find m c := by
  induction m with
  | nil => simp [Memory.find]
  | cons d rest ih => grind [Memory.find]

theorem Memory.find_insert (m : Memory) (a c : Nat) (v : Byte) :
    Memory.find (Memory.insert a v m) c = if c = a then some v else Memory.find m c := by
  induction m with
  | nil => grind [Memory.find, Memory.insert]
  | cons d rest ih => grind [Memory.find, Memory.insert]

/-- Reading any address after a write: the byte written there, every other byte as before. -/
theorem Memory.read_write (base : Nat) (m : Memory) (a c : Nat) (v : Byte) :
    Memory.read base (Memory.write base m a v) c = if c = a then v else Memory.read base m c := by
  unfold Memory.read Memory.write
  split
  · rw [Memory.find_filter]; split <;> simp_all
  · rw [Memory.find_insert]; split <;> simp_all

/-- Reading any address after several bytes are written. -/
theorem Memory.read_writeAll (base : Nat) (m : Memory) (a c : Nat) (bs : List Byte) :
    Memory.read base (Memory.writeAll base m a bs) c =
      if a ≤ c then (bs[c - a]?).getD (Memory.read base m c) else Memory.read base m c := by
  induction bs generalizing m a with
  | nil => simp [Memory.writeAll]
  | cons b bs ih =>
    rw [Memory.writeAll, ih, Memory.read_write]
    rcases Nat.lt_trichotomy c a with h | rfl | h
    · simp [show ¬ a + 1 ≤ c by omega, show ¬ a ≤ c by omega, show c ≠ a by omega]
    · simp
    · rw [show c - a = (c - (a + 1)) + 1 by omega]
      simp [show a + 1 ≤ c by omega, show a ≤ c by omega, show c ≠ a by omega]

theorem Memory.mem_insert {m : Memory} {a : Nat} {v : Byte} {c : Host.Cell} (h : c ∈ Memory.insert a v m) :
    c = (a, v) ∨ c ∈ m := by
  induction m with
  | nil => simpa [Memory.insert] using h
  | cons d rest ih => grind [Memory.insert]

theorem Memory.insert_sorted {m : Memory} (a : Nat) (v : Byte) (h : m.Pairwise (fun c d => c.1 < d.1)) :
    (Memory.insert a v m).Pairwise (fun c d => c.1 < d.1) := by
  induction m with
  | nil => simp [Memory.insert]
  | cons d rest ih =>
    obtain ⟨h1, h2⟩ := List.pairwise_cons.mp h
    unfold Memory.insert
    split
    · refine List.pairwise_cons.mpr ⟨fun c hc => ?_, h⟩
      rcases List.mem_cons.mp hc with rfl | hc
      · assumption
      · exact Nat.lt_trans ‹_› (h1 c hc)
    · split
      · subst_vars; exact List.pairwise_cons.mpr ⟨h1, h2⟩
      · refine List.pairwise_cons.mpr ⟨fun c hc => ?_, ih h2⟩
        rcases Memory.mem_insert hc with rfl | hc
        · simp; omega
        · exact h1 c hc

/-- A write to an address in range keeps the canonical form. -/
theorem Memory.wf_write {base : Nat} {m : Memory} {a : Nat} (v : Byte) (ha : a < 4096) (h : Memory.wf base m) :
    Memory.wf base (Memory.write base m a v) := by
  unfold Memory.write
  split
  · exact ⟨h.1.filter _, fun c hc => h.2 c (List.mem_filter.mp hc).1⟩
  · refine ⟨Memory.insert_sorted a v h.1, fun c hc => ?_⟩
    rcases Memory.mem_insert hc with rfl | hc
    · exact ⟨ha, ‹_›⟩
    · exact h.2 c hc

/-- Writing bytes in range keeps the canonical form. -/
theorem Memory.wf_writeAll {base : Nat} {m : Memory} {a : Nat} {bs : List Byte} (ha : a + bs.length ≤ 4096)
    (h : Memory.wf base m) : Memory.wf base (Memory.writeAll base m a bs) := by
  induction bs generalizing m a with
  | nil => exact h
  | cons b bs ih =>
    simp only [List.length_cons] at ha
    exact ih (by omega) (Memory.wf_write b (by omega) h)

/-- The empty memory is in canonical form. -/
theorem Memory.wf_nil (base : Nat) : Memory.wf base [] := ⟨List.Pairwise.nil, fun _ h => by cases h⟩

/-- Reading any address after `putBytes`. -/
theorem State.byteAt_putBytes (s : State) (a c : Nat) (bs : List Byte) :
    (s.putBytes a bs).byteAt c = if a ≤ c then (bs[c - a]?).getD (s.byteAt c) else s.byteAt c :=
  Memory.read_writeAll _ _ _ _ _

/-- `putBytes` in range keeps the canonical form. -/
theorem State.putBytes_wf (s : State) {a : Nat} {bs : List Byte} (ha : a + bs.length ≤ 4096)
    (h : Memory.wf s.config.fontBase s.mem) :
    Memory.wf (s.putBytes a bs).config.fontBase (s.putBytes a bs).mem := Memory.wf_writeAll ha h

@[simp] theorem State.bytesAt_length (s : State) (a n : Nat) : (s.bytesAt a n).length = n := by
  simp [State.bytesAt]

theorem State.bytesAt_getElem? (s : State) (a n k : Nat) :
    (s.bytesAt a n)[k]? = if k < n then some (s.byteAt (a + k)) else none := by
  unfold State.bytesAt
  split <;> simp_all

end Sys2Proof.Machine
end

