-- ==== Sys2Proof/Laws/Ops.lean ====
section
/-! SUPPORT. For each shared operation, everything it can answer. -/

namespace Sys2Proof.Machine

/-- `finish` always answers a next state, its argument with the reply set. -/
@[simp] theorem finish_eq_next {b : Bool} {s t : State} :
    finish b s = .next t ↔ t = s.setReply (.ok b) := by
  unfold finish; constructor
  · intro h; cases h; rfl
  · rintro rfl; rfl

@[simp] theorem finish_ne_fault {b : Bool} {s : State} {f : Fault} : finish b s ≠ .fault f := by
  unfold finish; exact fun h => by cases h

@[simp] theorem finish_ne_refused {b : Bool} {s : State} {r : Refusal} : finish b s ≠ .refused r := by
  unfold finish; exact fun h => by cases h

/-- `raiseFault` answers its fault and nothing else. -/
@[simp] theorem raiseFault_eq_fault {f g : Fault} : raiseFault f = .fault g ↔ f = g := by
  unfold raiseFault; constructor
  · intro h; cases h; rfl
  · rintro rfl; rfl

@[simp] theorem raiseFault_ne_next {f : Fault} {t : State} : raiseFault f ≠ .next t := by
  unfold raiseFault; exact fun h => by cases h

@[simp] theorem raiseFault_ne_refused {f : Fault} {r : Refusal} : raiseFault f ≠ .refused r := by
  unfold raiseFault; exact fun h => by cases h

/-- The range check finds a fault exactly when a byte is needed above 4095. -/
theorem rangeFault_eq_some {a n : Nat} {f : Fault} :
    rangeFault a n = some f ↔ (0 < n ∧ a + n - 1 > 4095) ∧ f = .memoryFault (max a 4096) := by
  unfold rangeFault; split <;> grind

theorem rangeFault_eq_none {a n : Nat} : rangeFault a n = none ↔ n = 0 ∨ a + n ≤ 4096 := by
  unfold rangeFault; split <;> simp <;> omega

/-- `ifInRange` answers the fault of the range check, or what it guards. -/
theorem ifInRange_of_gt {s : State} {n : Nat} (r : Result) (h : 0 < n) (h' : s.i.toNat + n - 1 > 4095) :
    ifInRange s n r = raiseFault (.memoryFault (max s.i.toNat 4096)) := by
  unfold ifInRange; rw [rangeFault_eq_some.mpr ⟨⟨h, h'⟩, rfl⟩]

theorem ifInRange_of_le {s : State} {n : Nat} (r : Result) (h : n = 0 ∨ s.i.toNat + n ≤ 4096) :
    ifInRange s n r = r := by
  unfold ifInRange; rw [rangeFault_eq_none.mpr h]

theorem ifInRange_eq_next {s t : State} {n : Nat} {r : Result} :
    ifInRange s n r = .next t ↔ (n = 0 ∨ s.i.toNat + n ≤ 4096) ∧ r = .next t := by
  by_cases h : n = 0 ∨ s.i.toNat + n ≤ 4096
  · simp [ifInRange_of_le r h, h]
  · rw [ifInRange_of_gt r (by omega) (by omega)]; simp [h]

theorem ifInRange_eq_fault {s : State} {n : Nat} {r : Result} {f : Fault} :
    ifInRange s n r = .fault f ↔
      (0 < n ∧ s.i.toNat + n - 1 > 4095 ∧ f = .memoryFault (max s.i.toNat 4096)) ∨
      ((n = 0 ∨ s.i.toNat + n ≤ 4096) ∧ r = .fault f) := by
  by_cases h : n = 0 ∨ s.i.toNat + n ≤ 4096
  · rw [ifInRange_of_le r h]; constructor
    · exact fun e => .inr ⟨h, e⟩
    · rintro (⟨_, _, _⟩ | ⟨_, e⟩)
      · omega
      · exact e
  · rw [ifInRange_of_gt r (by omega) (by omega), raiseFault_eq_fault]; constructor
    · exact fun e => .inl ⟨by omega, by omega, e.symm⟩
    · rintro (⟨_, _, e⟩ | ⟨_, _⟩)
      · exact e.symm
      · omega

theorem ifInRange_eq_refused {s : State} {n : Nat} {r : Result} {q : Refusal} :
    ifInRange s n r = .refused q ↔ (n = 0 ∨ s.i.toNat + n ≤ 4096) ∧ r = .refused q := by
  by_cases h : n = 0 ∨ s.i.toNat + n ≤ 4096
  · simp [ifInRange_of_le r h, h]
  · rw [ifInRange_of_gt r (by omega) (by omega)]; simp [h]

/-- The fetch reads the two bytes at `pc` and passes them, or faults with the `pc`. -/
theorem fetch_of_le {s : State} (h : s.pc.toNat ≤ 4094) :
    fetch s = .ok (wordOfBytes (s.byteAt s.pc.toNat) (s.byteAt (s.pc.toNat + 1)), s.setPc (s.pc + 2)) := by
  unfold fetch; rw [if_neg (by omega)]

theorem fetch_of_gt {s : State} (h : s.pc.toNat > 4094) : fetch s = .error (.memoryFault s.pc.toNat) := by
  unfold fetch; rw [if_pos (by omega)]

theorem fetch_eq_ok {s t : State} {op : Word} (h : fetch s = .ok (op, t)) :
    s.pc.toNat ≤ 4094 ∧ op = wordOfBytes (s.byteAt s.pc.toNat) (s.byteAt (s.pc.toNat + 1)) ∧ t = s.setPc (s.pc + 2) := by
  by_cases hp : s.pc.toNat ≤ 4094
  · rw [fetch_of_le hp] at h; cases h; exact ⟨hp, rfl, rfl⟩
  · rw [fetch_of_gt (by omega)] at h; cases h

/-- An operation but `Reset` runs only on an instance without a fault. -/
theorem unlessFaulted_of_none {s : State} (r : Result) (h : s.fault = none) : unlessFaulted s r = r := by
  unfold unlessFaulted; rw [h]

theorem unlessFaulted_of_some {s : State} {f : Fault} (r : Result) (h : s.fault = some f) :
    unlessFaulted s r = .refused (.faultedInstance f) := by
  unfold unlessFaulted; rw [h]

theorem unlessFaulted_eq_next {s t : State} {r : Result} :
    unlessFaulted s r = .next t ↔ s.fault = none ∧ r = .next t := by
  unfold unlessFaulted; split <;> simp_all

/-- `done` answers its argument with the reply set. -/
@[simp] theorem done_eq_next {s t : State} : done s = .next t ↔ t = s.setReply .done := by
  unfold done; constructor
  · intro h; cases h; rfl
  · rintro rfl; rfl

/-- What a cycle that answers a next state did: it fetched, decoded and executed one instruction. -/
theorem cycle_eq_next {s t : State} (h : cycle s = .next t) :
    s.fault = none ∧ s.pc.toNat ≤ 4094 ∧
      ∃ i, decode (wordOfBytes (s.byteAt s.pc.toNat) (s.byteAt (s.pc.toNat + 1))) = .ok i ∧
        exec i (s.setPc (s.pc + 2)) = .next t := by
  unfold cycle at h
  obtain ⟨hf, h⟩ := unlessFaulted_eq_next.mp h
  refine ⟨hf, ?_⟩
  split at h
  · simp at h
  · obtain ⟨hp, rfl, rfl⟩ := fetch_eq_ok ‹_›
    split at h
    · simp at h
    · exact ⟨hp, _, ‹_›, h⟩

/-- `Reset` answers a next state exactly for a ROM that fits and a font base it accepts. -/
theorem resetWith_eq_next {config : Config} {rom : List Byte} {s t : State} :
    resetWith config rom s = .next t ↔ rom.length ≤ 3584 ∧ config.Valid ∧
      t = { (State.fresh config).putBytes 0x200 rom with schedule := s.schedule, draws := s.draws } := by
  unfold resetWith maxRomBytes
  split
  · simp; omega
  · split
    · constructor
      · intro h; cases h; exact ⟨by omega, ‹_›, rfl⟩
      · rintro ⟨_, _, rfl⟩; rfl
    · simp_all

/-- The first operation of a non-empty schedule is the next one. -/
theorem step_of_cons {s : State} {op : Operation} {rest : List Operation} (h : s.schedule = op :: rest) :
    step s = perform op s.dequeue := by
  unfold step State.nextOperation; rw [h]

/-- With nothing scheduled the next operation is a cycle. -/
theorem step_of_nil {s : State} (h : s.schedule = []) : step s = cycle s.dequeue := by
  unfold step State.nextOperation; rw [h]; rfl

end Sys2Proof.Machine
end

