-- ==== Sys2Proof/Laws/Blitter.lean ====
section
/-! SUPPORT. The blitter cell by cell (R108). -/

namespace Sys2Proof.Machine

/-- A sprite byte's bit at a column (R104). -/
theorem getLsbD_spriteRow (b : Byte) (x0 col : Nat) (h : col < 64) :
    (spriteRow b x0).getLsbD col = (decide (x0 ≤ col ∧ col - x0 ≤ 7) && b.getLsbD (7 - (col - x0))) := by
  unfold spriteRow
  rw [BitVec.getLsbD_shiftLeft, BitVec.getLsbD_setWidth, BitVec.getLsbD_reverse, BitVec.getMsbD]
  by_cases h1 : x0 ≤ col <;> by_cases h2 : col - x0 ≤ 7 <;> simp [h, h1, h2] <;> grind

/-- The sprite's bit at a cell (R108). -/
theorem getLsbD_spriteMask (s : State) (a n x0 y0 row col : Nat) (h : col < 64) :
    (spriteMask (s.bytesAt a n) x0 y0 row).getLsbD col =
      (decide (y0 ≤ row ∧ row - y0 < n ∧ x0 ≤ col ∧ col - x0 ≤ 7) &&
        (s.byteAt (a + (row - y0))).getLsbD (7 - (col - x0))) := by
  unfold spriteMask
  by_cases h1 : y0 ≤ row
  · rw [if_pos h1, State.bytesAt_getElem?]
    by_cases h2 : row - y0 < n
    · rw [if_pos h2]; simp only [getLsbD_spriteRow _ _ _ h]; simp [h1, h2]
    · simp [h2]
  · simp [h1]

/-- A cell after the blit is the cell before, XORed with the sprite's bit (R108). -/
theorem getElem_blit (fb : Framebuffer) (rows : List Byte) (x0 y0 : Nat) (r : Fin 32) :
    (blit fb rows x0 y0)[r] = fb[r] ^^^ spriteMask rows x0 y0 r.val := by simp [blit]

/-- The collision bit: some set cell lies under a set sprite bit (R108). -/
theorem collides_eq_true {fb : Framebuffer} {rows : List Byte} {x0 y0 : Nat} :
    collides fb rows x0 y0 = true ↔
      ∃ (r : Fin 32) (c : Fin 64), fb[r].getLsbD c.val = true ∧ (spriteMask rows x0 y0 r.val).getLsbD c.val = true := by
  unfold collides
  simp only [List.any_eq_true, List.mem_finRange, true_and, bne_iff_ne, ne_eq]
  refine exists_congr fun r => ⟨fun h => ?_, ?_⟩
  · by_contra hc
    refine h (BitVec.eq_of_getLsbD_eq fun k hk => ?_)
    have := not_exists.mp hc ⟨k, hk⟩
    rw [BitVec.getLsbD_and, show (0 : PixelRow).getLsbD k = false from BitVec.getLsbD_zero]
    simpa using this
  · rintro ⟨c, h1, h2⟩ h
    have := congrArg (fun b : PixelRow => b.getLsbD c.val) h
    rw [BitVec.getLsbD_and, h1, h2] at this
    simp at this

end Sys2Proof.Machine
end

