-- ==== Sys2Proof/Laws/Decode.lean ====
section
/-! SUPPORT. The fields of a word and the encoder's words as numbers (R48, R51), and what the fields of a word built from
its digits are. -/

namespace Sys2Proof.Machine

/-! The fields as numbers. -/

theorem fieldG_toNat (op : Word) : (fieldG op).toNat = op.toNat / 0x1000 := by
  unfold fieldG; rw [BitVec.extractLsb'_toNat, Nat.shiftRight_eq_div_pow]; omega

theorem fieldX_val (op : Word) : (fieldX op).val = op.toNat / 0x100 % 0x10 := by
  show (op.extractLsb' 8 4).toNat = _
  rw [BitVec.extractLsb'_toNat, Nat.shiftRight_eq_div_pow]

theorem fieldY_val (op : Word) : (fieldY op).val = op.toNat / 0x10 % 0x10 := by
  show (op.extractLsb' 4 4).toNat = _
  rw [BitVec.extractLsb'_toNat, Nat.shiftRight_eq_div_pow]

theorem fieldN_toNat (op : Word) : (fieldN op).toNat = op.toNat % 0x10 := by
  unfold fieldN; rw [BitVec.extractLsb'_toNat, Nat.shiftRight_eq_div_pow]; omega

theorem fieldNn_toNat (op : Word) : (fieldNn op).toNat = op.toNat % 0x100 := by
  unfold fieldNn; rw [BitVec.extractLsb'_toNat, Nat.shiftRight_eq_div_pow]; omega

theorem fieldNnn_toNat (op : Word) : (fieldNnn op).toNat = op.toNat % 0x1000 := by
  unfold fieldNnn; rw [BitVec.extractLsb'_toNat, Nat.shiftRight_eq_div_pow]; omega

/-! The encoder's words as numbers, and so the words of R51's patterns. -/

theorem toNat_append_eq_add {m k : Nat} (a : BitVec m) (b : BitVec k) : (a ++ b).toNat = a.toNat * 2 ^ k + b.toNat := by
  rw [BitVec.toNat_append, ← Nat.shiftLeft_add_eq_or_of_lt b.isLt, Nat.shiftLeft_eq]

theorem encodeA_eq_wordA (g : BitVec 4) (nnn : BitVec 12) : encodeA g nnn = wordA g.toNat nnn := by
  apply BitVec.eq_of_toNat_eq
  rw [encodeA, wordA, toNat_append_eq_add, BitVec.toNat_ofNat]; omega

theorem encodeXI_eq_wordXI (g : BitVec 4) (x : Reg) (nn : Byte) : encodeXI g x nn = wordXI g.toNat x nn.toNat := by
  apply BitVec.eq_of_toNat_eq
  have hx : (BitVec.ofFin (w := 4) x).toNat = x.val := rfl
  rw [encodeXI, wordXI, toNat_append_eq_add, toNat_append_eq_add, BitVec.toNat_ofNat, hx]; omega

theorem encodeXYN_eq_wordXYN (g : BitVec 4) (x y : Reg) (n : BitVec 4) :
    encodeXYN g x y n = wordXYN g.toNat x y n.toNat := by
  apply BitVec.eq_of_toNat_eq
  have hx : (BitVec.ofFin (w := 4) x).toNat = x.val := rfl
  have hy : (BitVec.ofFin (w := 4) y).toNat = y.val := rfl
  rw [encodeXYN, wordXYN, toNat_append_eq_add, toNat_append_eq_add, toNat_append_eq_add, BitVec.toNat_ofNat, hx, hy]
  omega

/-! The fields of a word in R51's numeric form. -/

theorem toNat_wordA {g : Nat} (nnn : BitVec 12) (hg : g < 16) : (wordA g nnn).toNat = 0x1000 * g + nnn.toNat := by
  rw [wordA, BitVec.toNat_ofNat]; omega

theorem toNat_wordXI {g nn : Nat} (x : Reg) (hg : g < 16) (hn : nn < 256) :
    (wordXI g x nn).toNat = 0x1000 * g + 0x100 * x.val + nn := by
  rw [wordXI, BitVec.toNat_ofNat]; omega

theorem toNat_wordXYN {g n : Nat} (x y : Reg) (hg : g < 16) (hn : n < 16) :
    (wordXYN g x y n).toNat = 0x1000 * g + 0x100 * x.val + 0x10 * y.val + n := by
  rw [wordXYN, BitVec.toNat_ofNat]; omega

theorem fieldG_wordA {g : Nat} (nnn : BitVec 12) (hg : g < 16) : fieldG (wordA g nnn) = BitVec.ofNat 4 g := by
  apply BitVec.eq_of_toNat_eq
  rw [fieldG_toNat, toNat_wordA nnn hg, BitVec.toNat_ofNat]; omega

theorem fieldNnn_wordA {g : Nat} (nnn : BitVec 12) (hg : g < 16) : fieldNnn (wordA g nnn) = nnn := by
  apply BitVec.eq_of_toNat_eq
  rw [fieldNnn_toNat, toNat_wordA nnn hg]; omega

theorem fieldG_wordXI {g nn : Nat} (x : Reg) (hg : g < 16) (hn : nn < 256) :
    fieldG (wordXI g x nn) = BitVec.ofNat 4 g := by
  apply BitVec.eq_of_toNat_eq
  rw [fieldG_toNat, toNat_wordXI x hg hn, BitVec.toNat_ofNat]; omega

theorem fieldX_wordXI {g nn : Nat} (x : Reg) (hg : g < 16) (hn : nn < 256) : fieldX (wordXI g x nn) = x := by
  apply Fin.ext
  rw [fieldX_val, toNat_wordXI x hg hn]; omega

theorem fieldNn_wordXI {g nn : Nat} (x : Reg) (hg : g < 16) (hn : nn < 256) :
    fieldNn (wordXI g x nn) = BitVec.ofNat 8 nn := by
  apply BitVec.eq_of_toNat_eq
  rw [fieldNn_toNat, toNat_wordXI x hg hn, BitVec.toNat_ofNat]; omega

theorem fieldG_wordXYN {g n : Nat} (x y : Reg) (hg : g < 16) (hn : n < 16) :
    fieldG (wordXYN g x y n) = BitVec.ofNat 4 g := by
  apply BitVec.eq_of_toNat_eq
  rw [fieldG_toNat, toNat_wordXYN x y hg hn, BitVec.toNat_ofNat]; omega

theorem fieldX_wordXYN {g n : Nat} (x y : Reg) (hg : g < 16) (hn : n < 16) : fieldX (wordXYN g x y n) = x := by
  apply Fin.ext
  rw [fieldX_val, toNat_wordXYN x y hg hn]; omega

theorem fieldY_wordXYN {g n : Nat} (x y : Reg) (hg : g < 16) (hn : n < 16) : fieldY (wordXYN g x y n) = y := by
  apply Fin.ext
  rw [fieldY_val, toNat_wordXYN x y hg hn]; omega

theorem fieldN_wordXYN {g n : Nat} (x y : Reg) (hg : g < 16) (hn : n < 16) :
    fieldN (wordXYN g x y n) = BitVec.ofNat 4 n := by
  apply BitVec.eq_of_toNat_eq
  rw [fieldN_toNat, toNat_wordXYN x y hg hn, BitVec.toNat_ofNat]; omega

/-! `Decode` group by group (R52). -/

theorem decode_group0 {op : Word} (h : fieldG op = 0x0#4) :
    decode op = .ok (if op = 0x00E0#16 then .cls else if op = 0x00EE#16 then .ret else .sys (fieldNnn op)) := by
  unfold decode; rw [h]; rfl

theorem decode_group1 {op : Word} (h : fieldG op = 0x1#4) :
    decode op = .ok (.jp (fieldNnn op)) := by
  unfold decode; rw [h]; rfl

theorem decode_group2 {op : Word} (h : fieldG op = 0x2#4) :
    decode op = .ok (.call (fieldNnn op)) := by
  unfold decode; rw [h]; rfl

theorem decode_group3 {op : Word} (h : fieldG op = 0x3#4) :
    decode op = .ok (.seVxNn (fieldX op) (fieldNn op)) := by
  unfold decode; rw [h]; rfl

theorem decode_group4 {op : Word} (h : fieldG op = 0x4#4) :
    decode op = .ok (.sneVxNn (fieldX op) (fieldNn op)) := by
  unfold decode; rw [h]; rfl

theorem decode_group5 {op : Word} (h : fieldG op = 0x5#4) :
    decode op = if fieldN op = 0x0#4 then .ok (.seVxVy (fieldX op) (fieldY op)) else .error .group5 := by
  unfold decode; rw [h]; rfl

theorem decode_group6 {op : Word} (h : fieldG op = 0x6#4) :
    decode op = .ok (.ldVxNn (fieldX op) (fieldNn op)) := by
  unfold decode; rw [h]; rfl

theorem decode_group7 {op : Word} (h : fieldG op = 0x7#4) :
    decode op = .ok (.addVxNn (fieldX op) (fieldNn op)) := by
  unfold decode; rw [h]; rfl

theorem decode_group8 {op : Word} (h : fieldG op = 0x8#4) :
    decode op = decodeGroup8 (fieldX op) (fieldY op) (fieldN op) := by
  unfold decode; rw [h]; rfl

theorem decode_group9 {op : Word} (h : fieldG op = 0x9#4) :
    decode op = if fieldN op = 0x0#4 then .ok (.sneVxVy (fieldX op) (fieldY op)) else .error .group9 := by
  unfold decode; rw [h]; rfl

theorem decode_groupA {op : Word} (h : fieldG op = 0xA#4) :
    decode op = .ok (.ldINnn (fieldNnn op)) := by
  unfold decode; rw [h]; rfl

theorem decode_groupB {op : Word} (h : fieldG op = 0xB#4) :
    decode op = .ok (.jpV0 (fieldNnn op)) := by
  unfold decode; rw [h]; rfl

theorem decode_groupC {op : Word} (h : fieldG op = 0xC#4) :
    decode op = .ok (.rnd (fieldX op) (fieldNn op)) := by
  unfold decode; rw [h]; rfl

theorem decode_groupD {op : Word} (h : fieldG op = 0xD#4) :
    decode op = .ok (.drw (fieldX op) (fieldY op) (fieldN op)) := by
  unfold decode; rw [h]; rfl

theorem decode_groupE {op : Word} (h : fieldG op = 0xE#4) :
    decode op = decodeGroupE (fieldX op) (fieldNn op) := by
  unfold decode; rw [h]; rfl

theorem decode_groupF {op : Word} (h : fieldG op = 0xF#4) :
    decode op = decodeGroupF (fieldX op) (fieldNn op) := by
  unfold decode; rw [h]; rfl

end Sys2Proof.Machine
end

