-- ==== Sys2Proof/Laws/Operands.lean ====
section
/-! SUPPORT. The operand forms and flags: what each is in the numbers of the spec. -/

namespace Sys2Proof.Machine

theorem addressOperand_toNat (nnn : BitVec 12) : (addressOperand nnn).toNat = nnn.toNat := by
  simp [addressOperand]; omega

theorem offsetOperand_toNat (b : Byte) : (offsetOperand b).toNat = b.toNat := by
  simp [offsetOperand]; omega

/-- The low nibble of a register (R97, R110). -/
theorem State.lowNibble_val (s : State) (x : Reg) : (s.lowNibble x).val = (s.getV x).toNat % 16 := by
  show ((s.getV x).extractLsb' 0 4).toNat = _
  rw [BitVec.extractLsb'_toNat]; simp

/-- A glyph's address, for a font base R5 allows, is exact (R97). -/
theorem State.glyphAddress_toNat {s : State} (h : s.config.Valid) (d : Fin 16) :
    (s.glyphAddress d).toNat = s.config.fontBase + 5 * d.val := by
  unfold Config.Valid at h
  unfold State.glyphAddress
  rw [BitVec.toNat_ofNat, Nat.mod_eq_of_lt (by omega)]

@[simp] theorem decimalDigits_length (b : Byte) : (decimalDigits b).length = 3 := rfl

/-- The least pressed key is the pressed key below which none is pressed (R112). -/
theorem State.leastPressed_eq_some {s : State} {k : Key} :
    s.leastPressed = some k ↔ s.pressed k = true ∧ ∀ j : Key, j < k → s.pressed j = false := by
  unfold State.leastPressed
  rw [List.find?_eq_some_iff_getElem]
  constructor
  · rintro ⟨h, i, hi, rfl, hj⟩
    refine ⟨h, fun j hlt => ?_⟩
    have h1 : j.val < i := by simpa [Fin.lt_def] using hlt
    simpa using hj j.val h1
  · rintro ⟨h, hj⟩
    exact ⟨h, k.val, by simp, by simp, fun j hlt => by simpa using hj ⟨j, by omega⟩ (Fin.lt_def.mpr hlt)⟩

theorem State.leastPressed_eq_none {s : State} : s.leastPressed = none ↔ ∀ k, s.pressed k = false := by
  unfold State.leastPressed; simp

/-- A result and then a flag, as the five flag-setting instructions write them (R92): the flag wins for `x = 15`. -/
theorem State.getV_setV_setFlag (s : State) (x r : Reg) (b : Byte) (f : Bool) :
    ((s.setV x b).setFlag f).getV r = if r = VF then (if f then 1 else 0) else if r = x then b else s.getV r := by
  rw [State.getV_setFlag, State.getV_setV]; grind

/-- `VF` after `setIndexFlag` (R96). -/
theorem State.getV_setIndexFlag (s : State) (r : Reg) (f : Bool) :
    (s.setIndexFlag f).getV r = if s.config.addISetsVf = true ∧ r = VF then (if f then 1 else 0) else s.getV r := by
  unfold State.setIndexFlag
  by_cases h : s.config.addISetsVf = true
  · rw [if_pos h, State.getV_setFlag]; grind
  · rw [if_neg h]; simp [h]

/-- `DRW` in range: the blit, the collision flag and the reply (R103). -/
theorem execDrw_of_le {x y : Reg} {n : BitVec 4} {s : State} (h : n.toNat = 0 ∨ s.i.toNat + n.toNat ≤ 4096) :
    execDrw x y n s = .next
      (((s.setFb (blit s.fb (s.bytesAt s.i.toNat n.toNat) (s.startColumn x) (s.startRow y))).setFlag
        (collides s.fb (s.bytesAt s.i.toNat n.toNat) (s.startColumn x) (s.startRow y))).setReply (.ok true)) :=
  ifInRange_of_le _ h

/-- Everything `DRW` answers when it goes on (R103). -/
theorem execDrw_eq_next {x y : Reg} {n : BitVec 4} {s t : State} :
    execDrw x y n s = .next t ↔ (n.toNat = 0 ∨ s.i.toNat + n.toNat ≤ 4096) ∧
      t = ((s.setFb (blit s.fb (s.bytesAt s.i.toNat n.toNat) (s.startColumn x) (s.startRow y))).setFlag
        (collides s.fb (s.bytesAt s.i.toNat n.toNat) (s.startColumn x) (s.startRow y))).setReply (.ok true) := by
  unfold execDrw; rw [ifInRange_eq_next, finish_eq_next]

/-- `DRW` writes no register but `VF` (R103). -/
theorem getV_execDrw {x y : Reg} {n : BitVec 4} {s t : State} (h : execDrw x y n s = .next t) {r : Reg} (hr : r ≠ VF) :
    t.getV r = s.getV r := by
  rw [(execDrw_eq_next.mp h).2, State.setReply_getV, State.getV_setFlag, if_neg hr.symm, State.setFb_getV]

/-- `DRW` writes no byte of memory (R103). -/
theorem byteAt_execDrw {x y : Reg} {n : BitVec 4} {s t : State} (h : execDrw x y n s = .next t) (a : Nat) :
    t.byteAt a = s.byteAt a := by rw [(execDrw_eq_next.mp h).2]; simp

/-- `DRW` does not change `I` (R101). -/
theorem i_execDrw {x y : Reg} {n : BitVec 4} {s t : State} (h : execDrw x y n s = .next t) : t.i = s.i := by
  rw [(execDrw_eq_next.mp h).2]; simp

/-- A cell after `DRW` (R108). -/
theorem pixel_execDrw {x y : Reg} {n : BitVec 4} {s t : State} (h : execDrw x y n s = .next t) (row : Fin 32)
    (col : Fin 64) :
    t.pixel row col = xor (s.pixel row col)
      ((spriteMask (s.bytesAt s.i.toNat n.toNat) (s.startColumn x) (s.startRow y) row.val).getLsbD col.val) := by
  rw [execDrw_of_le (ifInRange_eq_next.mp h).1] at h
  cases h
  show (blit _ _ _ _)[row].getLsbD _ = _
  rw [getElem_blit, BitVec.getLsbD_xor]; rfl

end Sys2Proof.Machine
end

