-- ==== Sys2Proof/Laws/PerInstr.lean ====
section
/-! SUPPORT. Per instruction: its word has the fixed bits of its row of spec/opcode_table.json (match and mask). -/

namespace Sys2Proof.Laws

/-- The mask of the instruction's row. -/
def rowMask : Instr → Word
  | .cls | .ret => 0xFFFF
  | .jp _ | .call _ | .seVxNn _ _ | .sneVxNn _ _ | .ldVxNn _ _ | .addVxNn _ _ | .ldINnn _ | .jpV0 _ | .rnd _ _
  | .drw _ _ _ | .sys _ => 0xF000
  | .seVxVy _ _ | .ldVxVy _ _ | .orVxVy _ _ | .andVxVy _ _ | .xorVxVy _ _ | .addVxVy _ _ | .subVxVy _ _
  | .shrVxVy _ _ | .subnVxVy _ _ | .shlVxVy _ _ | .sneVxVy _ _ => 0xF00F
  | .skp _ | .sknp _ | .ldVxDt _ | .ldVxK _ | .ldDtVx _ | .ldStVx _ | .addIVx _ | .ldFVx _ | .ldBVx _ | .ldMiVx _
  | .ldVxMi _ => 0xF0FF

/-- The match of the instruction's row. -/
def rowMatch : Instr → Word
  | .cls => 0x00E0 | .ret => 0x00EE | .jp _ => 0x1000 | .call _ => 0x2000 | .seVxNn _ _ => 0x3000
  | .sneVxNn _ _ => 0x4000 | .seVxVy _ _ => 0x5000 | .ldVxNn _ _ => 0x6000 | .addVxNn _ _ => 0x7000
  | .ldVxVy _ _ => 0x8000 | .orVxVy _ _ => 0x8001 | .andVxVy _ _ => 0x8002 | .xorVxVy _ _ => 0x8003
  | .addVxVy _ _ => 0x8004 | .subVxVy _ _ => 0x8005 | .shrVxVy _ _ => 0x8006 | .subnVxVy _ _ => 0x8007
  | .shlVxVy _ _ => 0x800E | .sneVxVy _ _ => 0x9000 | .ldINnn _ => 0xA000 | .jpV0 _ => 0xB000 | .rnd _ _ => 0xC000
  | .drw _ _ _ => 0xD000 | .skp _ => 0xE09E | .sknp _ => 0xE0A1 | .ldVxDt _ => 0xF007 | .ldVxK _ => 0xF00A
  | .ldDtVx _ => 0xF015 | .ldStVx _ => 0xF018 | .addIVx _ => 0xF01E | .ldFVx _ => 0xF029 | .ldBVx _ => 0xF033
  | .ldMiVx _ => 0xF055 | .ldVxMi _ => 0xF065 | .sys _ => 0x0000

/-- The instruction's word matches its row. -/
def Matching.Statement (i : Instr) : Prop := encode i &&& rowMask i = rowMatch i

theorem and_ones4 (g : BitVec 4) : g &&& 15#4 = g := BitVec.and_allOnes

theorem and_ones8 (b : Byte) : b &&& 255#8 = b := BitVec.and_allOnes

theorem encodeA_and_F000 (g : BitVec 4) (nnn : BitVec 12) : encodeA g nnn &&& 0xF000 = g ++ 0x000#12 := by
  rw [show (0xF000 : Word) = 0xF#4 ++ 0x000#12 from rfl, encodeA, BitVec.and_append]
  simp [and_ones4]

theorem encodeXI_and_F000 (g : BitVec 4) (x : Reg) (nn : Byte) : encodeXI g x nn &&& 0xF000 = g ++ 0x000#12 :=
  encodeA_and_F000 g (BitVec.ofFin (w := 4) x ++ nn)

theorem encodeXI_and_F0FF (g : BitVec 4) (x : Reg) (nn : Byte) :
    encodeXI g x nn &&& 0xF0FF = g ++ (0x0#4 ++ nn) := by
  rw [show (0xF0FF : Word) = 0xF#4 ++ (0x0#4 ++ 0xFF#8) from rfl, encodeXI, BitVec.and_append, BitVec.and_append]
  simp [and_ones4, and_ones8]

theorem encodeXYN_and_F000 (g : BitVec 4) (x y : Reg) (n : BitVec 4) : encodeXYN g x y n &&& 0xF000 = g ++ 0x000#12 :=
  encodeA_and_F000 g (BitVec.ofFin (w := 4) x ++ (BitVec.ofFin (w := 4) y ++ n))

theorem encodeXYN_and_F00F (g : BitVec 4) (x y : Reg) (n : BitVec 4) :
    encodeXYN g x y n &&& 0xF00F = g ++ (0x0#4 ++ (0x0#4 ++ n)) := by
  rw [show (0xF00F : Word) = 0xF#4 ++ (0x0#4 ++ (0x0#4 ++ 0xF#4)) from rfl, encodeXYN, BitVec.and_append,
    BitVec.and_append, BitVec.and_append]
  simp [and_ones4]

open Matching

theorem Matching.cls : Statement .cls := by unfold Statement; decide
theorem Matching.ret : Statement .ret := by unfold Statement; decide
theorem Matching.jp (nnn : BitVec 12) : Statement (.jp nnn) := encodeA_and_F000 _ _
theorem Matching.call (nnn : BitVec 12) : Statement (.call nnn) := encodeA_and_F000 _ _
theorem Matching.seVxNn (x : Reg) (nn : Byte) : Statement (.seVxNn x nn) := encodeXI_and_F000 _ _ _
theorem Matching.sneVxNn (x : Reg) (nn : Byte) : Statement (.sneVxNn x nn) := encodeXI_and_F000 _ _ _
theorem Matching.seVxVy (x y : Reg) : Statement (.seVxVy x y) := encodeXYN_and_F00F _ _ _ _
theorem Matching.ldVxNn (x : Reg) (nn : Byte) : Statement (.ldVxNn x nn) := encodeXI_and_F000 _ _ _
theorem Matching.addVxNn (x : Reg) (nn : Byte) : Statement (.addVxNn x nn) := encodeXI_and_F000 _ _ _
theorem Matching.ldVxVy (x y : Reg) : Statement (.ldVxVy x y) := encodeXYN_and_F00F _ _ _ _
theorem Matching.orVxVy (x y : Reg) : Statement (.orVxVy x y) := encodeXYN_and_F00F _ _ _ _
theorem Matching.andVxVy (x y : Reg) : Statement (.andVxVy x y) := encodeXYN_and_F00F _ _ _ _
theorem Matching.xorVxVy (x y : Reg) : Statement (.xorVxVy x y) := encodeXYN_and_F00F _ _ _ _
theorem Matching.addVxVy (x y : Reg) : Statement (.addVxVy x y) := encodeXYN_and_F00F _ _ _ _
theorem Matching.subVxVy (x y : Reg) : Statement (.subVxVy x y) := encodeXYN_and_F00F _ _ _ _
theorem Matching.shrVxVy (x y : Reg) : Statement (.shrVxVy x y) := encodeXYN_and_F00F _ _ _ _
theorem Matching.subnVxVy (x y : Reg) : Statement (.subnVxVy x y) := encodeXYN_and_F00F _ _ _ _
theorem Matching.shlVxVy (x y : Reg) : Statement (.shlVxVy x y) := encodeXYN_and_F00F _ _ _ _
theorem Matching.sneVxVy (x y : Reg) : Statement (.sneVxVy x y) := encodeXYN_and_F00F _ _ _ _
theorem Matching.ldINnn (nnn : BitVec 12) : Statement (.ldINnn nnn) := encodeA_and_F000 _ _
theorem Matching.jpV0 (nnn : BitVec 12) : Statement (.jpV0 nnn) := encodeA_and_F000 _ _
theorem Matching.rnd (x : Reg) (nn : Byte) : Statement (.rnd x nn) := encodeXI_and_F000 _ _ _
theorem Matching.drw (x y : Reg) (n : BitVec 4) : Statement (.drw x y n) := encodeXYN_and_F000 _ _ _ _
theorem Matching.skp (x : Reg) : Statement (.skp x) := encodeXI_and_F0FF _ _ _
theorem Matching.sknp (x : Reg) : Statement (.sknp x) := encodeXI_and_F0FF _ _ _
theorem Matching.ldVxDt (x : Reg) : Statement (.ldVxDt x) := encodeXI_and_F0FF _ _ _
theorem Matching.ldVxK (x : Reg) : Statement (.ldVxK x) := encodeXI_and_F0FF _ _ _
theorem Matching.ldDtVx (x : Reg) : Statement (.ldDtVx x) := encodeXI_and_F0FF _ _ _
theorem Matching.ldStVx (x : Reg) : Statement (.ldStVx x) := encodeXI_and_F0FF _ _ _
theorem Matching.addIVx (x : Reg) : Statement (.addIVx x) := encodeXI_and_F0FF _ _ _
theorem Matching.ldFVx (x : Reg) : Statement (.ldFVx x) := encodeXI_and_F0FF _ _ _
theorem Matching.ldBVx (x : Reg) : Statement (.ldBVx x) := encodeXI_and_F0FF _ _ _
theorem Matching.ldMiVx (x : Reg) : Statement (.ldMiVx x) := encodeXI_and_F0FF _ _ _
theorem Matching.ldVxMi (x : Reg) : Statement (.ldVxMi x) := encodeXI_and_F0FF _ _ _
theorem Matching.sys (nnn : BitVec 12) : Statement (.sys nnn) := encodeA_and_F000 _ _

end Sys2Proof.Laws
end

