-- ==== Sys2Proof/Machine/Text.lean ====
section
/-! DEFINITION. The assembler syntax of spec/30_encoding.md R51 and R55, and a program listing with R56's data directives
as the bytes it stands for. The machine does not see either. -/

namespace Sys2Proof

/-- One hex digit, upper case. -/
def hexDigit (k : Nat) : String :=
  match k with
  | 0 => "0" | 1 => "1" | 2 => "2" | 3 => "3" | 4 => "4" | 5 => "5" | 6 => "6" | 7 => "7"
  | 8 => "8" | 9 => "9" | 10 => "A" | 11 => "B" | 12 => "C" | 13 => "D" | 14 => "E" | _ => "F"

/-- A register's name, `V0` to `VF`. -/
def textReg (x : Reg) : String := "V" ++ hexDigit x.val

/-- A byte, `0xNN`. -/
def textByte (b : Byte) : String := "0x" ++ hexDigit (b.toNat / 16) ++ hexDigit (b.toNat % 16)

/-- An address, `0xNNN`. -/
def textAddress (a : BitVec 12) : String :=
  "0x" ++ hexDigit (a.toNat / 256) ++ hexDigit (a.toNat / 16 % 16) ++ hexDigit (a.toNat % 16)

/-- A mnemonic and one operand. -/
def text1 (m a : String) : String := m ++ " " ++ a

/-- A mnemonic and two operands, destination first. -/
def text2 (m a b : String) : String := m ++ " " ++ a ++ ", " ++ b

/-- The assembler text of an instruction (R51's column "assembler syntax"). -/
def Instr.text : Instr → String
  | .sys nnn => text1 "SYS" (textAddress nnn)
  | .cls => "CLS"
  | .ret => "RET"
  | .jp nnn => text1 "JP" (textAddress nnn)
  | .call nnn => text1 "CALL" (textAddress nnn)
  | .seVxNn x nn => text2 "SE" (textReg x) (textByte nn)
  | .sneVxNn x nn => text2 "SNE" (textReg x) (textByte nn)
  | .seVxVy x y => text2 "SE" (textReg x) (textReg y)
  | .ldVxNn x nn => text2 "LD" (textReg x) (textByte nn)
  | .addVxNn x nn => text2 "ADD" (textReg x) (textByte nn)
  | .ldVxVy x y => text2 "LD" (textReg x) (textReg y)
  | .orVxVy x y => text2 "OR" (textReg x) (textReg y)
  | .andVxVy x y => text2 "AND" (textReg x) (textReg y)
  | .xorVxVy x y => text2 "XOR" (textReg x) (textReg y)
  | .addVxVy x y => text2 "ADD" (textReg x) (textReg y)
  | .subVxVy x y => text2 "SUB" (textReg x) (textReg y)
  | .shrVxVy x y => text2 "SHR" (textReg x) (textReg y)
  | .subnVxVy x y => text2 "SUBN" (textReg x) (textReg y)
  | .shlVxVy x y => text2 "SHL" (textReg x) (textReg y)
  | .sneVxVy x y => text2 "SNE" (textReg x) (textReg y)
  | .ldINnn nnn => text2 "LD" "I" (textAddress nnn)
  | .jpV0 nnn => text2 "JP" "V0" (textAddress nnn)
  | .rnd x nn => text2 "RND" (textReg x) (textByte nn)
  | .drw x y n => text2 "DRW" (textReg x) (textReg y) ++ ", 0x" ++ hexDigit n.toNat
  | .skp x => text1 "SKP" (textReg x)
  | .sknp x => text1 "SKNP" (textReg x)
  | .ldVxDt x => text2 "LD" (textReg x) "DT"
  | .ldVxK x => text2 "LD" (textReg x) "K"
  | .ldDtVx x => text2 "LD" "DT" (textReg x)
  | .ldStVx x => text2 "LD" "ST" (textReg x)
  | .addIVx x => text2 "ADD" "I" (textReg x)
  | .ldFVx x => text2 "LD" "F" (textReg x)
  | .ldBVx x => text2 "LD" "B" (textReg x)
  | .ldMiVx x => text2 "LD" "[I]" (textReg x)
  | .ldVxMi x => text2 "LD" (textReg x) "[I]"

/-- One line of a program listing (R56). There are no pseudo-instructions. -/
inductive Line where
  /-- An instruction. -/
  | instr (i : Instr)
  /-- `DB b0, b1, ...`: bytes as they are. -/
  | db (bytes : List Byte)
  /-- `DW w`: a word, high byte first. -/
  | dw (w : Word)
  deriving DecidableEq, Repr

/-- The bytes of a line. -/
def Line.bytes : Line → List Byte
  | .instr i => encodeBytes i
  | .db bytes => bytes
  | .dw w => bytesOfWord w

/-- The ROM of a listing: its lines in order. -/
def romOf (lines : List Line) : List Byte := lines.flatMap Line.bytes

end Sys2Proof
end

