-- ==== Sys2Proof/Tests/Slice0.lean ====
section
/-! SUPPORT. Tests of the model on words and values taken from spec/30_encoding.md R51 and spec/95_test_vectors.md, and for
every obligation with hypotheses a named witness that meets them. -/

namespace Sys2Proof.Tests

open Sys2Proof.Machine

/-! Helpers -/

/-- The default configuration of spec/95_test_vectors.md, the shifts on `V[x]`. -/
def config : Config where
  shiftSrcVy := false
  keyWaitRelease := false
  addISetsVf := false
  fontBase := 0x050

/-- The start state of spec/95_test_vectors.md: reset, an empty ROM. -/
def s0 : State := State.fresh config

/-- As `s0`, with all three quirks on. -/
def q0 : State := State.fresh { config with shiftSrcVy := true, keyWaitRelease := true, addISetsVf := true }

/-- `s0` with a pixel set. -/
def lit (s : State) (col : Nat) (row : Fin 32) : State := s.setFb (s.fb.set row.val (1#64 <<< col))

/-- `s0` with the keys of a mask pressed. -/
def down (s : State) (mask : BitVec 16) : State := s.setKey (Vector.ofFn fun k : Fin 16 => mask.getLsbD k.val)

/-- The next state satisfies `p`. -/
def nextIs (r : Result) (p : State → Bool) : Bool :=
  match r with
  | .next t => p t
  | .fault _ => false
  | .refused _ => false

/-- The fault is `f`. -/
def faultIs (r : Result) (f : Fault) : Bool :=
  match r with
  | .next _ => false
  | .fault g => g == f
  | .refused _ => false

/-- The refusal is `q`. -/
def refusalIs (r : Result) (q : Refusal) : Bool :=
  match r with
  | .next _ => false
  | .fault _ => false
  | .refused p => p == q

/-- One step from `s` with the word `w` at `pc`. -/
def run (s : State) (w : Nat) : Result := step (s.withFetchWord 16 w)

theorem next_of_nextIs {r : Result} {p : State → Bool} (h : nextIs r p = true) : ∃ t, r = .next t := by
  cases r with
  | next t => exact ⟨t, rfl⟩
  | fault f => cases h
  | refused q => cases h

/-! Well-formedness: the check of R52's precedence refuses the two address fields, and nothing else is checked. -/

theorem test_ill_formed_sys_cls : Instr.wellFormed (.sys 0x0E0#12) = false := by decide
theorem test_ill_formed_sys_ret : Instr.wellFormed (.sys 0x0EE#12) = false := by decide
theorem test_well_formed_sys : Instr.wellFormed (.sys 0x0EF#12) = true := by decide

/-! Decoding: each word is written out from its row of R51. -/

theorem test_decode_sys : decode 0x0123#16 = .ok (.sys 0x123#12) := by decide
theorem test_decode_cls : decode 0x00E0#16 = .ok .cls := by decide
theorem test_decode_ret : decode 0x00EE#16 = .ok .ret := by decide
theorem test_decode_jp : decode 0x1ABC#16 = .ok (.jp 0xABC#12) := by decide
theorem test_decode_call : decode 0x2ABC#16 = .ok (.call 0xABC#12) := by decide
theorem test_decode_seVxNn : decode 0x3A42#16 = .ok (.seVxNn 0xA 0x42#8) := by decide
theorem test_decode_sneVxNn : decode 0x4A42#16 = .ok (.sneVxNn 0xA 0x42#8) := by decide
theorem test_decode_seVxVy : decode 0x5120#16 = .ok (.seVxVy 1 2) := by decide
theorem test_decode_ldVxNn : decode 0x6FAB#16 = .ok (.ldVxNn 0xF 0xAB#8) := by decide
theorem test_decode_addVxNn : decode 0x7220#16 = .ok (.addVxNn 2 0x20#8) := by decide
theorem test_decode_ldVxVy : decode 0x8A30#16 = .ok (.ldVxVy 0xA 3) := by decide
theorem test_decode_orVxVy : decode 0x8121#16 = .ok (.orVxVy 1 2) := by decide
theorem test_decode_andVxVy : decode 0x8122#16 = .ok (.andVxVy 1 2) := by decide
theorem test_decode_xorVxVy : decode 0x8123#16 = .ok (.xorVxVy 1 2) := by decide
theorem test_decode_addVxVy : decode 0x8124#16 = .ok (.addVxVy 1 2) := by decide
theorem test_decode_subVxVy : decode 0x8125#16 = .ok (.subVxVy 1 2) := by decide
theorem test_decode_shrVxVy : decode 0x8126#16 = .ok (.shrVxVy 1 2) := by decide
theorem test_decode_subnVxVy : decode 0x8127#16 = .ok (.subnVxVy 1 2) := by decide
theorem test_decode_shlVxVy : decode 0x812E#16 = .ok (.shlVxVy 1 2) := by decide
theorem test_decode_sneVxVy : decode 0x9120#16 = .ok (.sneVxVy 1 2) := by decide
theorem test_decode_ldINnn : decode 0xAFFF#16 = .ok (.ldINnn 0xFFF#12) := by decide
theorem test_decode_jpV0 : decode 0xB300#16 = .ok (.jpV0 0x300#12) := by decide
theorem test_decode_rnd : decode 0xC30F#16 = .ok (.rnd 3 0x0F#8) := by decide
theorem test_decode_drw : decode 0xD125#16 = .ok (.drw 1 2 5#4) := by decide
theorem test_decode_skp : decode 0xE49E#16 = .ok (.skp 4) := by decide
theorem test_decode_sknp : decode 0xE4A1#16 = .ok (.sknp 4) := by decide
theorem test_decode_ldVxDt : decode 0xF107#16 = .ok (.ldVxDt 1) := by decide
theorem test_decode_ldVxK : decode 0xF20A#16 = .ok (.ldVxK 2) := by decide
theorem test_decode_ldDtVx : decode 0xF015#16 = .ok (.ldDtVx 0) := by decide
theorem test_decode_ldStVx : decode 0xF218#16 = .ok (.ldStVx 2) := by decide
theorem test_decode_addIVx : decode 0xF21E#16 = .ok (.addIVx 2) := by decide
theorem test_decode_ldFVx : decode 0xF029#16 = .ok (.ldFVx 0) := by decide
theorem test_decode_ldBVx : decode 0xF033#16 = .ok (.ldBVx 0) := by decide
theorem test_decode_ldMiVx : decode 0xF255#16 = .ok (.ldMiVx 2) := by decide
theorem test_decode_ldVxMi : decode 0xF265#16 = .ok (.ldVxMi 2) := by decide

theorem test_decode_invalid_5 : decode 0x5121#16 = .error .group5 := by decide
theorem test_decode_invalid_8 : decode 0x801F#16 = .error .group8 := by decide
theorem test_decode_invalid_9 : decode 0x912F#16 = .error .group9 := by decide
theorem test_decode_invalid_E : decode 0xE49F#16 = .error .groupE := by decide
theorem test_decode_invalid_F : decode 0xF2FF#16 = .error .groupF := by decide

/-- The byte order of R35: `12 34` is `JP 0x234`. -/
theorem test_decode_bytes : decodeBytes [0x12, 0x34, 0x56] = .ok (.jp 0x234#12, [0x56]) := by decide
theorem test_decode_truncated : decodeBytes [0x12] = .error .truncated := by decide
theorem test_table_word : decodeTableWord 16 0xD125 = some (.drw 1 2 5#4) := by decide
theorem test_table_word_invalid : decodeTableWord 16 0x5121 = none := by decide

/-- Program P3 of spec/95_test_vectors.md part 3: its listing is its ROM bytes. -/
theorem test_listing_P3 :
    romOf [.instr (.ldVxNn 0 0x0A#8), .instr (.ldFVx 0), .instr (.ldVxNn 1 0x3E#8), .instr (.ldVxNn 2 0x1E#8),
      .instr (.drw 1 2 5#4), .instr (.drw 1 2 5#4), .dw 0x120C] =
    [0x60, 0x0A, 0xF0, 0x29, 0x61, 0x3E, 0x62, 0x1E, 0xD1, 0x25, 0xD1, 0x25, 0x12, 0x0C] := by decide

theorem test_text_drw : Instr.text (.drw 1 0xF 5#4) = "DRW V1, VF, 0x5" := by decide
theorem test_text_ldVxMi : Instr.text (.ldVxMi 2) = "LD V2, [I]" := by decide
theorem test_text_jpV0 : Instr.text (.jpV0 0x300#12) = "JP V0, 0x300" := by decide

/-! Control flow (spec/95_test_vectors.md part 2.1, S3) -/

theorem test_sys : faultIs (run s0 0x00EF) (.invalidOpcode 0x00EF) = true := by decide
theorem test_ret_underflow : faultIs (run s0 0x00EE) .stackUnderflow = true := by decide
theorem test_call_ret :
    nextIs (run s0 0x2300) (fun t => t.pc == 0x300 && t.sp == 1 && t.stack[0] == 0x202 &&
      nextIs (run t 0x00EE) (fun u => u.pc == 0x202 && u.sp == 0)) = true := by decide
theorem test_call_overflow :
    faultIs (run { s0 with sp := 16 } 0x2ABC) .stackOverflow = true := by decide
theorem test_jp : nextIs (run s0 0x1ABC) (fun t => t.pc == 0xABC) = true := by decide
theorem test_seVxNn : nextIs (run (s0.setV 0xA 0x42) 0x3A42) (fun t => t.pc == 0x204) = true := by decide
theorem test_sneVxNn : nextIs (run (s0.setV 0xA 0x42) 0x4A42) (fun t => t.pc == 0x202) = true := by decide
theorem test_seVxVy : nextIs (run ((s0.setV 1 7).setV 2 8) 0x5120) (fun t => t.pc == 0x202) = true := by decide
theorem test_sneVxVy : nextIs (run ((s0.setV 1 7).setV 2 8) 0x9120) (fun t => t.pc == 0x204) = true := by decide
theorem test_jpV0 : nextIs (run (s0.setV 0 0xFF) 0xBFFF) (fun t => t.pc == 0x10FE) = true := by decide

/-! Load, arithmetic, logic, shift (part 2.2, S8) -/

theorem test_ldVxNn : nextIs (run s0 0x6FAB) (fun t => t.getV 15 == 0xAB) = true := by decide
theorem test_addVxNn :
    nextIs (run (s0.setV 2 0xF0) 0x7220) (fun t => t.getV 2 == 0x10 && t.getV 15 == 0) = true := by decide
theorem test_ldVxVy : nextIs (run (s0.setV 3 0x7E) 0x8A30) (fun t => t.getV 10 == 0x7E && t.getV 3 == 0x7E) = true := by
  decide
theorem test_orVxVy : nextIs (run (((s0.setV 0 0x0F).setV 1 0xF0).setV 15 5) 0x8011)
    (fun t => t.getV 0 == 0xFF && t.getV 15 == 5) = true := by decide
theorem test_andVxVy : nextIs (run (((s0.setV 0 0x3C).setV 1 0x0F).setV 15 5) 0x8012)
    (fun t => t.getV 0 == 0x0C && t.getV 15 == 5) = true := by decide
theorem test_xorVxVy : nextIs (run (((s0.setV 0 0xFF).setV 1 0x0F).setV 15 5) 0x8013)
    (fun t => t.getV 0 == 0xF0 && t.getV 15 == 5) = true := by decide
theorem test_addVxVy : nextIs (run ((s0.setV 0 0xFF).setV 1 1) 0x8014)
    (fun t => t.getV 0 == 0x00 && t.getV 15 == 1) = true := by decide
/-- The flag wins over the sum, and the old `VF` is an operand (row 13). -/
theorem test_addVxVy_flag_wins : nextIs (run ((s0.setV 15 0xF0).setV 1 0x20) 0x8F14) (fun t => t.getV 15 == 1) = true := by
  decide
theorem test_subVxVy : nextIs (run ((s0.setV 0 0x10).setV 1 0x20) 0x8015)
    (fun t => t.getV 0 == 0xF0 && t.getV 15 == 0) = true := by decide
theorem test_subVxVy_equal : nextIs (run ((s0.setV 0 0x20).setV 1 0x20) 0x8015)
    (fun t => t.getV 0 == 0x00 && t.getV 15 == 1) = true := by decide
theorem test_subnVxVy : nextIs (run ((s0.setV 0 0x20).setV 1 0x10) 0x8017)
    (fun t => t.getV 0 == 0xF0 && t.getV 15 == 0) = true := by decide
theorem test_shrVxVy : nextIs (run ((s0.setV 1 0xFF).setV 2 0x04) 0x8126)
    (fun t => t.getV 1 == 0x7F && t.getV 2 == 0x04 && t.getV 15 == 1) = true := by decide
theorem test_shrVxVy_quirk : nextIs (run ((q0.setV 1 0xFF).setV 2 0x04) 0x8126)
    (fun t => t.getV 1 == 0x02 && t.getV 2 == 0x04 && t.getV 15 == 0) = true := by decide
theorem test_shlVxVy : nextIs (run (s0.setV 1 0x81) 0x810E) (fun t => t.getV 1 == 0x02 && t.getV 15 == 1) = true := by
  decide
theorem test_shlVxVy_quirk : nextIs (run (q0.setV 15 0x81) 0x81FE)
    (fun t => t.getV 1 == 0x02 && t.getV 15 == 1) = true := by decide
/-- One draw is consumed, and a mask of 0 leaves 0 whatever the byte is (row 35). -/
theorem test_rnd : nextIs (run (s0.setV 3 9) 0xC300) (fun t => t.draws == 1 && t.pc == 0x202) = true := by decide

/-! Index register and memory (part 2.3, S6) -/

theorem test_ldINnn : nextIs (run s0 0xAFFF) (fun t => t.i == 0x0FFF) = true := by decide
theorem test_addIVx : nextIs (run (((s0.setI 0x0FFF).setV 2 1).setV 15 7) 0xF21E)
    (fun t => t.i == 0x1000 && t.getV 15 == 7) = true := by decide
/-- `VF` is read as the operand before the flag is written (row 9). -/
theorem test_addIVx_quirk : nextIs (run ((q0.setI 0x0FFE).setV 15 2) 0xFF1E)
    (fun t => t.i == 0x1000 && t.getV 15 == 1) = true := by decide
theorem test_ldFVx : nextIs (run (s0.setV 0 0x1A) 0xF029) (fun t => t.i == 0x0082) = true := by decide
theorem test_ldBVx : nextIs (run ((s0.setV 0 173).setI 0x300) 0xF033)
    (fun t => t.byteAt 0x300 == 1 && t.byteAt 0x301 == 7 && t.byteAt 0x302 == 3 && t.i == 0x300) = true := by decide
theorem test_ldBVx_fault : faultIs (run ((s0.setV 0 100).setI 4094) 0xF033) (.memoryFault 0x1000) = true := by decide
theorem test_ldMiVx : nextIs (run (((s0.setV 0 0x11).setV 2 0x33).setI 0x400) 0xF255)
    (fun t => t.byteAt 0x400 == 0x11 && t.byteAt 0x402 == 0x33 && t.byteAt 0x403 == 0 && t.i == 0x400) = true := by decide
theorem test_ldMiVx_last : nextIs (run (((s0.setV 0 0xAA).setV 15 0xEE).setI 4080) 0xFF55)
    (fun t => t.byteAt 4080 == 0xAA && t.byteAt 4095 == 0xEE) = true := by decide
theorem test_ldVxMi : nextIs (run (((s0.setV 3 0x77).setI 0x300).putBytes 0x300 [1, 7, 3, 9]) 0xF265)
    (fun t => t.getV 0 == 1 && t.getV 1 == 7 && t.getV 2 == 3 && t.getV 3 == 0x77 && t.i == 0x300) = true := by decide
theorem test_ldVxMi_fault : faultIs (run (s0.setI 4095) 0xF165) (.memoryFault 0x1000) = true := by decide

/-! Display (part 2.4) -/

theorem test_cls : nextIs (run (lit s0 63 31) 0x00E0)
    (fun t => t.fb == Vector.replicate 32 0 && t.reply == .ok true) = true := by decide
/-- The start wraps and the second bit is clipped (row 8). -/
theorem test_drw_clip : nextIs (run ((((s0.setI 0x300).setV 0 255).setV 1 255).putBytes 0x300 [0xC0]) 0xD011)
    (fun t => t.fb == (lit s0 63 31).fb && t.getV 15 == 0 && t.reply == .ok true) = true := by decide
/-- A collision (row 4). -/
theorem test_drw_collision : nextIs (run (((lit s0 3 0).setI 0x300).putBytes 0x300 [0xFF]) 0xD011)
    (fun t => t.fb[0] == 0xF7#64 && t.getV 15 == 1) = true := by decide

/-! Keypad and timers (part 2.5) -/

theorem test_skp : nextIs (run ((down s0 0x0080).setV 4 0x17) 0xE49E) (fun t => t.pc == 0x204) = true := by decide
theorem test_sknp : nextIs (run ((down s0 0x0080).setV 4 0x07) 0xE4A1) (fun t => t.pc == 0x202) = true := by decide
theorem test_ldVxK_least : nextIs (run (down s0 0x0880) 0xF20A) (fun t => t.pc == 0x202 && t.getV 2 == 7) = true := by
  decide
/-- The key-wait table's cycles 2 to 5: key 7 is latched, key 3 is ignored, and the release of key 7 completes. -/
theorem test_ldVxK_release :
    nextIs (run (down q0 0x0880) 0xF20A) (fun t => t.pc == 0x200 && t.keyWait == some 7 &&
      nextIs (run (down t 0x0008) 0xF20A) (fun u => u.pc == 0x202 && u.getV 2 == 7 && u.keyWait == none)) = true := by
  decide
theorem test_ldVxDt : nextIs (run (s0.setDt 3) 0xF107) (fun t => t.getV 1 == 3 && t.dt == 3) = true := by decide
theorem test_ldDtVx : nextIs (run (s0.setV 0 3) 0xF015) (fun t => t.dt == 3) = true := by decide
theorem test_ldStVx : nextIs (run (s0.setV 2 7) 0xF218) (fun t => t.st == 7 && t.tone) = true := by decide
theorem test_tick : nextIs (perform .tickTimers (s0.setDt 2)) (fun t => t.dt == 1 && t.st == 0) = true := by decide

/-! Fetch and faults (part 2.6) -/

theorem test_fetch_last : nextIs (run (s0.setPc 4094) 0x6001) (fun t => t.getV 0 == 1 && t.pc == 4096) = true := by decide
theorem test_fetch_odd : nextIs (run (s0.setPc 0x201) 0x6007) (fun t => t.getV 0 == 7 && t.pc == 0x203) = true := by decide
theorem test_fetch_fault : faultIs (step (s0.setPc 4095)) (.memoryFault 0x0FFF) = true := by decide
theorem test_invalid : faultIs (run s0 0x5121) (.invalidOpcode 0x5121) = true := by decide
theorem test_refused : refusalIs (step s0.after) (.faultedInstance (.invalidOpcode 0)) = true := by decide
/-- The first bytes of the program P2 after `Reset`, and a glyph byte of the font (P3). -/
theorem test_reset : nextIs (perform (.reset config [0x60, 0xAD]) s0.after)
    (fun t => t.byteAt 0x200 == 0x60 && t.byteAt 0x201 == 0xAD && t.byteAt 0x202 == 0 && t.byteAt 0x83 == 0x90 &&
      t.fault == none) = true := by decide

/-! Witnesses: for each obligation with hypotheses, a state and operands that meet them, at the boundary values of each
clause. -/

theorem goes {r : Result} (h : nextIs r (fun _ => true) = true) : ∃ t, r = .next t := next_of_nextIs h

theorem test_witness_DecodeOfEncode :
    Instr.wellFormed (.sys 0xFFF#12) = true ∧ Instr.wellFormed (.drw 15 15 15#4) = true := by decide

theorem test_witness_EncodeOfDecode :
    decode 0x0000#16 = .ok (.sys 0#12) ∧ decode 0xFF65#16 = .ok (.ldVxMi 15) := by decide

theorem test_witness_StepRunsTheDecodedInstruction :
    ({ s0 with schedule := [.tickDelay] } : State).schedule = .tickDelay :: [] ∧ s0.schedule = [] ∧
    (let s := (s0.setPc 4094).withFetchWord 16 0x6001
     s.nextOperation = .cycle ∧ s.fault = none ∧ s.pc.toNat ≤ 4094 ∧ decode s.nextWord = .ok (.ldVxNn 0 1#8)) := by
  decide

theorem test_witness_CycleFaultsBeforeExecution :
    (s0.setPc 4095).nextOperation = .cycle ∧ (s0.setPc 4095).fault = none ∧ (s0.setPc 4095).pc.toNat > 4094 ∧
    (let s := (s0.setPc 4094).withFetchWord 16 0x5121
     s.pc.toNat ≤ 4094 ∧ ∀ i, decode s.nextWord ≠ .ok i) := by
  refine ⟨rfl, rfl, by decide, by decide, ?_⟩
  rw [show decode ((s0.setPc 4094).withFetchWord 16 0x5121).nextWord = .error .group5 by decide]
  exact fun i h => by cases h

theorem test_witness_FbChangedOnlyByClearAndDraw :
    (∃ t, exec .cls s0 = .next t) ∧ (∃ t, exec (.drw 15 14 0#4) s0 = .next t) ∧ (∃ t, exec (.jp 0#12) s0 = .next t) :=
  ⟨goes (by decide), goes (by decide), goes (by decide)⟩

theorem test_witness_SetKeysReplacesTheSnapshot :
    s0.fault = none ∧ s0.after.fault = some (.invalidOpcode 0) := by decide

theorem test_witness_ReadsShowOnlyTheOutputs :
    s0.fault = none ∧ (∃ t, perform .readFramebuffer s0 = .next t) ∧ (∃ t, perform .readFramebuffer (s0.setV 3 1) = .next t) ∧
    (s0.setV 3 1).fb = s0.fb ∧ (s0.setV 3 1).st = s0.st ∧ (s0.setV 3 1).dt = s0.dt :=
  ⟨rfl, goes (by decide), goes (by decide), rfl, rfl, rfl⟩

theorem test_witness_TicksDecrementTowardZero :
    s0.fault = none ∧ s0.dt = 0 ∧ (s0.setDt 255).fault = none ∧ (s0.setDt 255).dt = 255 := by decide

theorem test_witness_OperationsChangeOnlyTheirOwn :
    (∃ t, perform .cycle (s0.withFetchWord 16 0x2ABC) = .next t) ∧ (∃ t, perform (.setKeys (down s0 0xFFFF).key) s0 = .next t) ∧
    (∃ t, perform (.reset config [0x12]) s0.after = .next t) :=
  ⟨goes (by decide), goes (by decide), goes (by decide)⟩

theorem test_witness_StoppedAndWaitingProgramsStay_stopped :
    ((s0.setPc 4094).withFetchWord 16 0x1FFE).schedule = [] ∧ ((s0.setPc 4094).withFetchWord 16 0x1FFE).StoppedAt 4094 ∧
    (s0.withFetchWord 16 0x1200).StoppedAt 0x200 :=
  ⟨rfl, ⟨by decide, by decide, rfl, rfl, by decide⟩, ⟨by decide, by decide, rfl, rfl, by decide⟩⟩

theorem test_witness_StoppedAndWaitingProgramsStay_waiting :
    let s := s0.withFetchWord 16 0xF20A
    s.schedule = [] ∧ s.fault = none ∧ s.pc.toNat ≤ 4094 ∧ decode s.nextWord = .ok (.ldVxK 2) ∧
      s.config.keyWaitRelease = false ∧ ∀ k, s.pressed k = false := by decide

theorem test_witness_ResetZeroesRegistersTimersStack :
    State.reset = State.reset ∨ ∃ config rom s, perform (.reset config rom) s = .next State.reset := .inl rfl

theorem test_witness_ResetClearsIndexDisplayKeysLatches : ∃ t, perform (.reset config [0x00, 0xE0]) q0 = .next t :=
  goes (by decide)

theorem test_witness_ResetFillsMemory :
    ({ config with fontBase := 0x1B0 } : Config).Valid ∧ ({ config with fontBase := 0 } : Config).Valid ∧
    (List.replicate 3584 (0xFF : Byte)).length ≤ 3584 ∧ ([] : List Byte).length ≤ 3584 ∧
    (let a := 4095; a < 4096 ∧ ¬ (0x200 ≤ a ∧ a < 0x200 + ([] : List Byte).length) ∧ ¬ (0x1B0 ≤ a ∧ a < 0x1B0 + 80)) :=
  ⟨by decide, by decide, by rw [List.length_replicate], by decide, by decide⟩

theorem test_witness_FontBytesAreWrittenOut :
    ({ config with fontBase := 0x1B0 } : Config).Valid ∧ ({ config with fontBase := 0 } : Config).Valid ∧
    (List.replicate 3584 (0xFF : Byte)).length ≤ 3584 :=
  ⟨by decide, by decide, by rw [List.length_replicate]⟩

theorem test_witness_OutputSignals :
    s0.fault = none ∧ s0.after.fault = some (.invalidOpcode 0) ∧
    (s0.setPc 4095).after.fault = some (.memoryFault 4095) ∧
    (s0.withFetchWord 16 0x00EE).after.fault = some .stackUnderflow ∧
    (({ s0 with sp := 16 } : State).withFetchWord 16 0x2ABC).after.fault = some .stackOverflow ∧
    s0.st = 0 ∧ (s0.setSt 1).st ≠ 0 := by decide

theorem test_witness_ResetIgnoresTheFormerState :
    (List.replicate 3585 (0xFF : Byte)).length > 3584 ∧ ¬ ({ config with fontBase := 0x1B1 } : Config).Valid ∧
    (List.replicate 3584 (0xFF : Byte)).length ≤ 3584 ∧ ({ config with fontBase := 0x1B0 } : Config).Valid ∧
    (∃ t, perform (.reset config [1]) s0.after = .next t) ∧ (∃ t, perform (.reset config [1]) q0 = .next t) :=
  ⟨by rw [List.length_replicate]; decide, by decide, by rw [List.length_replicate], by decide, goes (by decide), goes (by decide)⟩

theorem test_witness_StepKeepsTheInvariant :
    ((s0.setI 0x300).withFetchWord 16 0xFF55).Inv ∧ ∃ t, step ((s0.setI 0x300).withFetchWord 16 0xFF55) = .next t :=
  ⟨⟨by decide, by decide, by decide, by decide, fun _ => rfl⟩, goes (by decide)⟩

theorem test_witness_StepKeepsTheKeyWait :
    (((down q0 0x0080).setKeyWait (some 7)).withFetchWord 16 0xF20A).WaitInv ∧
    ((down q0 0x0080).setKeyWait (some 7)).keyWait ≠ none ∧
    ∃ t, step (((down q0 0x0080).setKeyWait (some 7)).withFetchWord 16 0xF20A) = .next t :=
  ⟨fun _ => ⟨by decide, by decide, 2, by decide⟩, by decide, goes (by decide)⟩

theorem test_witness_CanonicalMemoryIsUnique :
    Memory.wf 0x050 [(0x50, 1#8), (4095, 0xFF#8)] ∧ ∀ a, Memory.read 0x050 [(0x50, 1#8)] a = Memory.read 0x050 [(0x50, 1#8)] a :=
  ⟨by decide, fun _ => rfl⟩

theorem test_witness_StoreSeenByTheNextFetch :
    (s0.setI 0x200).i = (s0.setI 0x200).pc ∧ (s0.setI 0x200).pc.toNat ≤ 4094 ∧
    (∃ t, exec (.ldMiVx 15) (s0.setI 0x200) = .next t) ∧
    ((s0.setI 4094).setPc 4094).pc.toNat ≤ 4094 ∧ (∃ t, exec (.ldMiVx 0) ((s0.setI 4094).setPc 4094) = .next t) ∧
    ∃ t, exec (.ldMiVx 1) ((s0.setI 4094).setPc 4094) = .next t :=
  ⟨rfl, by decide, goes (by decide), by decide, goes (by decide), goes (by decide)⟩

theorem test_witness_InstructionsFaultExactlyOnTheirCondition :
    faultOf (s0.setI 4093) (.ldBVx 0) = none ∧ faultOf (s0.setI 4094) (.ldBVx 0) = some (.memoryFault 4096) ∧
    faultOf (s0.setI 0xFFFF) (.drw 0 0 0#4) = none ∧ faultOf s0 .ret = some .stackUnderflow := by decide

theorem test_witness_FaultedInstanceOnlyResets :
    s0.after.fault = some (.invalidOpcode 0) ∧ (∀ config rom, Operation.cycle ≠ .reset config rom) ∧
    ∃ t, perform (.reset config []) s0.after = .next t :=
  ⟨by decide, fun _ _ => by simp, goes (by decide)⟩

theorem test_witness_FaultLatchIsSticky :
    step s0 = .fault (.invalidOpcode 0) ∧ s0.after.fault = some (.invalidOpcode 0) ∧
    ∀ op ∈ s0.after.schedule, ∀ config rom, op ≠ .reset config rom :=
  ⟨rfl, by decide, fun _ h => by cases h⟩

theorem test_witness_InstructionsWriteOnlyTheirParts :
    (∃ t, exec (.call 0xABC#12) { s0 with sp := 15 } = .next t) ∧ (∃ t, exec .ret { s0 with sp := 16 } = .next t) ∧
    (∃ t, exec (.ldBVx 0) (s0.setI 4093) = .next t) :=
  ⟨goes (by decide), goes (by decide), goes (by decide)⟩

theorem test_witness_InstructionsWriteOnlyTheirRegisters :
    (∃ t, exec (.ldVxMi 14) s0 = .next t) ∧ (15 : Reg) ∉ registersWritten s0 (.ldVxMi 14) ∧
    (∃ t, exec (.addIVx 15) s0 = .next t) ∧ (15 : Reg) ∉ registersWritten s0 (.addIVx 15) :=
  ⟨goes (by decide), by decide, goes (by decide), by decide⟩

theorem test_witness_SoundTimerIsNeverRead :
    (∀ x, Instr.ldVxDt 0 ≠ .ldStVx x) ∧ (∃ t, exec (.ldVxDt 0) s0 = .next t) ∧
    (∀ x, Instr.ret ≠ .ldStVx x) ∧ exec .ret s0 = .fault .stackUnderflow :=
  ⟨fun _ => by simp, goes (by decide), fun _ => by simp, rfl⟩

theorem test_witness_SysAlwaysInvalid : 0x0EF#12 ≠ 0x0E0#12 ∧ 0x0EF#12 ≠ 0x0EE#12 := by decide

theorem test_witness_RetPopsThePc :
    s0.sp.val = 0 ∧ ({ s0 with sp := 1 } : State).sp.val = (0 : Fin 16).val + 1 ∧
    ({ s0 with sp := 16 } : State).sp.val = (15 : Fin 16).val + 1 := by decide

theorem test_witness_CallPushesThePc :
    ({ s0 with sp := 16 } : State).sp.val = 16 ∧ ({ s0 with sp := 15 } : State).sp.val = (15 : Fin 16).val ∧
    s0.sp.val = (0 : Fin 16).val ∧ ({ s0 with sp := 15 } : State).sp.val < 16 := by decide

theorem test_witness_SkipOnImmediate :
    (s0.setV 10 0x42).getV 10 = 0x42#8 ∧ (s0.setV 10 0x43).getV 10 ≠ 0x42#8 := by decide

theorem test_witness_SkipOnRegisters :
    s0.getV 1 = s0.getV 2 ∧ (s0.setV 1 7).getV 1 ≠ (s0.setV 1 7).getV 2 ∧ 0 < 1 ∧ 15 < 16 := by decide

theorem test_witness_AddImmediateWraps : ∃ t, exec (.addVxNn 3 0xC8#8) (s0.setV 3 0x50) = .next t := goes (by decide)

theorem test_witness_AddSetsCarry :
    (0 : Reg) ≠ VF ∧ ((s0.setV 0 0xFF).getV 0).toNat + ((s0.setV 1 1).getV 1).toNat > 255 ∧
    ((s0.setV 0 0xFF).getV 0).toNat + ((s0.setV 0 0xFF).getV 1).toNat ≤ 255 := by decide

theorem test_witness_SubtractSetsNotBorrow :
    (0 : Reg) ≠ VF ∧ (s0.getV 0).toNat ≥ (s0.getV 1).toNat ∧
    ((s0.setV 1 1).getV 0).toNat < ((s0.setV 1 1).getV 1).toNat := by decide

theorem test_witness_ShiftsMoveOneBit : (0 : Reg) ≠ VF ∧ shiftedRegister s0 1 2 = 1 ∧ shiftedRegister q0 1 2 = 2 := by
  decide

theorem test_witness_AddToIndex :
    s0.config.addISetsVf = false ∧ q0.config.addISetsVf = true ∧
    ((q0.setI 0x0FFF).setV 1 1).i.toNat + (((q0.setI 0x0FFF).setV 1 1).getV 1).toNat > 0x0FFF ∧
    ((q0.setI 0x0FFE).setV 1 1).i.toNat + (((q0.setI 0x0FFE).setV 1 1).getV 1).toNat ≤ 0x0FFF := by decide

theorem test_witness_FontAddress :
    s0.config.Valid ∧ (State.fresh { config with fontBase := 0x1B0 }).config.Valid := by decide

theorem test_witness_StoreDecimalDigits :
    (s0.setI 4094).i.toNat + 2 > 4095 ∧ (s0.setI 4093).i.toNat + 2 ≤ 4095 := by decide

theorem test_witness_DumpRegisters :
    (s0.setI 4081).i.toNat + (15 : Reg).val > 4095 ∧ (s0.setI 4080).i.toNat + (15 : Reg).val ≤ 4095 := by decide

theorem test_witness_LoadRegisters :
    (s0.setI 4095).i.toNat + (1 : Reg).val > 4095 ∧ (s0.setI 4095).i.toNat + (0 : Reg).val ≤ 4095 ∧
    ∃ u s t, exec (.ldMiVx 5) (s0.setI 0x400) = .next u ∧ FrameExcept [.v, .pc] u s ∧ exec (.ldVxMi 5) s = .next t := by
  refine ⟨by decide, by decide, ?_⟩
  obtain ⟨u, hu⟩ := goes (r := exec (.ldMiVx 5) (s0.setI 0x400)) (by decide)
  have h : execLdMiVx 5 (s0.setI 0x400) = .next u := hu
  unfold execLdMiVx at h
  obtain ⟨_, h⟩ := ifInRange_eq_next.mp h
  rw [finish_eq_next] at h
  have hi : u.i = 0x400 := by rw [h]; rfl
  refine ⟨u, u.setV 0 7, ((u.setV 0 7).loadRegs 5).setReply (.ok false), hu, fun p hp => ?_, ?_⟩
  · cases p <;> simp [Part.Same] at hp ⊢
  · show execLdVxMi 5 (u.setV 0 7) = _
    unfold execLdVxMi
    exact ifInRange_of_le _ (.inr (by rw [State.setV_i, hi]; decide))

theorem test_witness_DrawXorsTheSprite :
    0 < (2#4).toNat ∧ (s0.setI 4095).i.toNat + (2#4).toNat - 1 > 4095 ∧ (s0.setI 4094).i.toNat + (2#4).toNat - 1 ≤ 4095 ∧
    (0#4).toNat = 0 := by decide

theorem test_witness_DrawXorsTheSprite_collision :
    let s := (((lit s0 63 31).setI 0x300).setV 0 255).putBytes 0x300 [0x80]
    SpriteBit s 0 0 1#4 31 63 ∧ s.pixel 31 63 = true ∧ ¬ SpriteBit s 0 0 1#4 0 0 := by
  unfold SpriteBit; decide

theorem test_witness_DrawXorsTheSprite_no_collision :
    ¬ ∃ row col, SpriteBit (s0.setI 0x300) 0 0 0#4 row col ∧ (s0.setI 0x300).pixel row col = true := by
  rintro ⟨row, col, ⟨_, h, _⟩, _⟩; simp at h

theorem test_witness_DrawTwiceErases :
    nextIs (exec (.drw 0 1 5#4) (s0.setI 0x50)) (fun t => t.getV 0 == s0.getV 0 && t.getV 1 == s0.getV 1 &&
      nextIs (exec (.drw 0 1 5#4) t) fun _ => true) = true ∧
    nextIs (exec (.drw 15 15 5#4) (s0.setI 0x50)) (fun t => t.getV 15 == s0.getV 15 &&
      nextIs (exec (.drw 15 15 5#4) t) fun _ => true) = true ∧
    SpriteBit (s0.setI 0x50) 0 1 5#4 0 0 ∧ (s0.setI 0x50).pixel 0 0 = false := by
  unfold SpriteBit; decide

theorem test_witness_DrawLoopIsThePureDraw : 63 < 64 ∧ 31 < 32 := by decide

theorem test_witness_SkipOnKey :
    ((s0.setV 4 0x17).getV 4).toNat % 16 = (7 : Key).val ∧ s0.pressed 7 = false ∧
    (((down s0 0x0080).setV 4 0x17).getV 4).toNat % 16 = (7 : Key).val ∧ ((down s0 0x0080).setV 4 0x17).pressed 7 = true := by
  decide

theorem test_witness_WaitForPress :
    s0.config.keyWaitRelease = false ∧ (∀ k, s0.pressed k = false) ∧ (down s0 0x8000).pressed 15 = true ∧
    (∀ j : Key, j < 15 → (down s0 0x8000).pressed j = false) ∧ (down s0 0x8001).pressed 0 = true ∧
    (∀ j : Key, j < 0 → (down s0 0x8001).pressed j = false) := by decide

theorem test_witness_WaitForRelease :
    q0.config.keyWaitRelease = true ∧ q0.keyWait = none ∧ (∀ k, q0.pressed k = false) ∧ (down q0 0x8000).pressed 15 = true ∧
    (∀ j : Key, j < 15 → (down q0 0x8000).pressed j = false) ∧ (q0.setKeyWait (some 7)).keyWait = some 7 ∧
    (q0.setKeyWait (some 7)).pressed 7 = false ∧ ((down q0 0x0080).setKeyWait (some 7)).pressed 7 = true := by decide

end Sys2Proof.Tests
end

section
/-! PROOFS. One normal form for all instructions: `exec` raises the fault of `faultOf` or finishes with `effect`. -/

namespace Sys2Proof.Machine

/-! ## The normal form of `exec` -/

/-- The state a completing instruction leaves, its reply apart (`exec_of_faultOf_none` ties it to `exec`). Where the
instruction faults the value means nothing. -/
def effect (s : State) : Instr → State
  | .cls => s.setFb (Vector.replicate 32 0)
  | .ret => if h : 0 < s.sp.val then s.drop.setPc (s.top h) else s
  | .jp nnn => s.setPc (addressOperand nnn)
  | .call nnn => if h : s.sp.val < 16 then (s.push s.pc h).setPc (addressOperand nnn) else s
  | .seVxNn x nn => s.skipIf (s.getV x == nn)
  | .sneVxNn x nn => s.skipIf (s.getV x != nn)
  | .seVxVy x y => s.skipIf (s.getV x == s.getV y)
  | .sneVxVy x y => s.skipIf (s.getV x != s.getV y)
  | .ldVxNn x nn => s.setV x nn
  | .addVxNn x nn => s.setV x (s.getV x + nn)
  | .ldVxVy x y => s.setV x (s.getV y)
  | .orVxVy x y => s.setV x (s.getV x ||| s.getV y)
  | .andVxVy x y => s.setV x (s.getV x &&& s.getV y)
  | .xorVxVy x y => s.setV x (s.getV x ^^^ s.getV y)
  | .addVxVy x y => (s.setV x (s.getV x + s.getV y)).setFlag (carry (s.getV x) (s.getV y))
  | .subVxVy x y => (s.setV x (s.getV x - s.getV y)).setFlag (notBorrow (s.getV x) (s.getV y))
  | .shrVxVy x y => (s.setV x (s.shiftSource x y >>> 1)).setFlag (lowBit (s.shiftSource x y))
  | .subnVxVy x y => (s.setV x (s.getV y - s.getV x)).setFlag (notBorrow (s.getV y) (s.getV x))
  | .shlVxVy x y => (s.setV x (s.shiftSource x y <<< 1)).setFlag (highBit (s.shiftSource x y))
  | .ldINnn nnn => s.setI (addressOperand nnn)
  | .jpV0 nnn => s.setPc (offsetOperand (s.getV 0) + addressOperand nnn)
  | .rnd x nn => s.drawn.setV x (s.randByte &&& nn)
  | .drw x y n =>
    (s.setFb (blit s.fb (s.bytesAt s.i.toNat n.toNat) (s.startColumn x) (s.startRow y))).setFlag
      (collides s.fb (s.bytesAt s.i.toNat n.toNat) (s.startColumn x) (s.startRow y))
  | .skp x => s.skipIf (s.pressed (s.lowNibble x))
  | .sknp x => s.skipIf (!s.pressed (s.lowNibble x))
  | .ldVxDt x => s.setV x s.dt
  | .ldVxK x => if s.config.keyWaitRelease then s.waitRelease x else s.waitPress x
  | .ldDtVx x => s.setDt (s.getV x)
  | .ldStVx x => s.setSt (s.getV x)
  | .addIVx x => (s.setI (s.i + offsetOperand (s.getV x))).setIndexFlag (indexOverflow s.i (s.getV x))
  | .ldFVx x => s.setI (s.glyphAddress (s.lowNibble x))
  | .ldBVx x => s.putBytes s.i.toNat (decimalDigits (s.getV x))
  | .ldMiVx x => s.putBytes s.i.toNat (s.regsUpTo x)
  | .ldVxMi x => s.loadRegs x
  | .sys _ => s

/-- Whether a completing instruction reports a framebuffer change (R62). -/
def drawsScreen : Instr → Bool
  | .cls | .drw _ _ _ => true
  | _ => false

/-- The range check as a choice on its fault. -/
theorem ifInRange_eq_elim (s : State) (n : Nat) (r : Result) :
    ifInRange s n r = (rangeFault s.i.toNat n).elim r .fault := by
  unfold ifInRange; cases rangeFault s.i.toNat n <;> rfl

/-- `SYS`'s word, zero-extended or by its number. -/
theorem addressOperand_eq_ofNat (nnn : BitVec 12) : addressOperand nnn = BitVec.ofNat 16 nnn.toNat :=
  BitVec.eq_of_toNat_eq (by rw [addressOperand_toNat, BitVec.toNat_ofNat]; omega)

/-- `exec` in normal form: the fault of `faultOf`, or else the instruction's effect. -/
theorem exec_eq (i : Instr) (s : State) :
    exec i s = (faultOf s i).elim (finish (drawsScreen i) (effect s i)) .fault := by
  cases i with
  | ret =>
    by_cases h : s.sp.val = 0
    · simp [exec, execRet, faultOf, raiseFault, h]
    · simp [exec, execRet, faultOf, effect, drawsScreen, h, Nat.pos_of_ne_zero h]
  | call nnn =>
    by_cases h : s.sp.val = 16
    · simp [exec, execCall, faultOf, raiseFault, h]
    · have hlt : s.sp.val < 16 := by omega
      simp [exec, execCall, faultOf, effect, drawsScreen, h, hlt]
  | sys nnn => simp [exec, execSys, faultOf, raiseFault, addressOperand_eq_ofNat]
  | drw x y n => exact ifInRange_eq_elim _ _ _
  | ldBVx x => exact (ifInRange_eq_elim _ 3 _).trans (by simp [rangeFault, faultOf, effect, drawsScreen])
  | ldMiVx x | ldVxMi x =>
    exact (ifInRange_eq_elim _ (x.val + 1) _).trans (by simp [rangeFault, faultOf, effect, drawsScreen])
  | _ => rfl

theorem exec_of_faultOf_none {i : Instr} {s : State} (h : faultOf s i = none) :
    exec i s = .next ((effect s i).setReply (.ok (drawsScreen i))) := by
  rw [exec_eq, h]; rfl

theorem exec_of_faultOf_some {i : Instr} {s : State} {f : Fault} (h : faultOf s i = some f) :
    exec i s = .fault f := by
  rw [exec_eq, h]; rfl

/-- Everything an instruction answers when it completes. -/
theorem exec_eq_next {i : Instr} {s t : State} :
    exec i s = .next t ↔ faultOf s i = none ∧ t = (effect s i).setReply (.ok (drawsScreen i)) := by
  cases h : faultOf s i with
  | none => simp [exec_of_faultOf_none h, eq_comm]
  | some f => simp [exec_of_faultOf_some h]

/-- Everything an instruction answers when it faults. -/
theorem exec_eq_fault {i : Instr} {s : State} {f : Fault} : exec i s = .fault f ↔ faultOf s i = some f := by
  cases h : faultOf s i with
  | none => simp [exec_of_faultOf_none h]
  | some g => simp [exec_of_faultOf_some h]

end Sys2Proof.Machine
end

section
/-! PROOFS. The frame of every instruction, and that no instruction reads `ST`. -/

namespace Sys2Proof.Machine

/-! ## Frames -/

/-- A frame piece by piece, for `simp` to read off which pieces are left to compare. -/
theorem frameExcept_iff {ps : List Part} {s t : State} :
    FrameExcept ps s t ↔
      (.v ∉ ps → ∀ r, t.getV r = s.getV r) ∧ (.i ∉ ps → t.i = s.i) ∧ (.pc ∉ ps → t.pc = s.pc) ∧
      (.stack ∉ ps → t.stack = s.stack) ∧ (.sp ∉ ps → t.sp = s.sp) ∧ (.dt ∉ ps → t.dt = s.dt) ∧
      (.st ∉ ps → t.st = s.st) ∧ (.fb ∉ ps → t.fb = s.fb) ∧ (.key ∉ ps → t.key = s.key) ∧
      (.mem ∉ ps → ∀ a, t.byteAt a = s.byteAt a) ∧ (.fault ∉ ps → t.fault = s.fault) ∧
      (.keyWait ∉ ps → t.keyWait = s.keyWait) ∧ (.config ∉ ps → t.config = s.config) ∧
      (.schedule ∉ ps → t.schedule = s.schedule) ∧ (.draws ∉ ps → t.draws = s.draws) := by
  constructor
  · exact fun h => ⟨h .v, h .i, h .pc, h .stack, h .sp, h .dt, h .st, h .fb, h .key, h .mem, h .fault, h .keyWait,
      h .config, h .schedule, h .draws⟩
  · rintro ⟨v, i, pc, stack, sp, dt, st, fb, key, mem, fault, keyWait, config, schedule, draws⟩ p
    cases p <;> assumption

/-- The reply is no piece of the frame. -/
@[simp] theorem frameExcept_setReply {ps : List Part} {s t : State} {q : Reply} :
    FrameExcept ps s (t.setReply q) ↔ FrameExcept ps s t := by
  simp [frameExcept_iff]

/-- `LD_VX_K` without the release quirk writes `V[x]` or `pc` (R112). -/
theorem waitPress_frame (s : State) (x : Reg) : FrameExcept [.v, .pc] s (s.waitPress x) := by
  unfold State.waitPress
  split <;> simp [frameExcept_iff]

/-- `LD_VX_K` with the release quirk also writes `KEYWAIT` (R112). -/
theorem waitRelease_frame (s : State) (x : Reg) : FrameExcept [.v, .pc, .keyWait] s (s.waitRelease x) := by
  unfold State.waitRelease
  split
  · split <;> simp [frameExcept_iff]
  · split <;> simp [frameExcept_iff]

theorem FrameExcept.mono {ps qs : List Part} {s t : State} (h : FrameExcept ps s t) (hs : ps ⊆ qs) :
    FrameExcept qs s t := fun p hp => h p fun hm => hp (hs hm)

/-- An instruction's effect stays within its parts (10_state.md, the column "written by"). -/
theorem effect_frame (i : Instr) (s : State) : FrameExcept (partsWritten i) s (effect s i) := by
  cases i with
  | ret | call nnn =>
    simp only [effect]
    split <;> simp [frameExcept_iff, partsWritten]
  | ldVxK x =>
    simp only [effect]
    split
    · exact waitRelease_frame s x
    · exact (waitPress_frame s x).mono (by simp [partsWritten])
  | _ => simp [effect, frameExcept_iff, partsWritten]

/-- Settles O26: the frame of the instruction's effect; the reply is no part of it. -/
theorem instructionsWriteOnlyTheirParts : Obligations.InstructionsWriteOnlyTheirParts := by
  intro i s t h
  obtain ⟨_, rfl⟩ := exec_eq_next.mp h
  exact frameExcept_setReply.mpr (effect_frame i s)

/-! ## Registers -/

theorem State.getV_waitPress (s : State) {x r : Reg} (hr : r ≠ x) : (s.waitPress x).getV r = s.getV r := by
  unfold State.waitPress
  split
  · exact State.getV_setV_ne s hr _
  · rfl

theorem State.getV_waitRelease (s : State) {x r : Reg} (hr : r ≠ x) : (s.waitRelease x).getV r = s.getV r := by
  unfold State.waitRelease
  split
  · split <;> rfl
  · split
    · rfl
    · exact State.getV_setV_ne s hr _

/-- An instruction's effect leaves every register it does not list (R10, R11). -/
theorem effect_getV {i : Instr} {s : State} {r : Reg} (hr : r ∉ registersWritten s i) :
    (effect s i).getV r = s.getV r := by
  cases i with
  | ldVxNn x _ | addVxNn x _ | ldVxVy x _ | orVxVy x _ | andVxVy x _ | xorVxVy x _ | rnd x _ | ldVxDt x =>
    exact State.getV_setV_ne _ (List.mem_singleton.not.mp hr) _
  | addVxVy x _ | subVxVy x _ | shrVxVy x _ | subnVxVy x _ | shlVxVy x _ =>
    obtain ⟨hx, hvf⟩ : r ≠ x ∧ r ≠ VF := by simpa [registersWritten] using hr
    simp [effect, State.getV_setV_setFlag, hx, hvf]
  | drw _ _ _ =>
    have hvf : r ≠ VF := List.mem_singleton.not.mp hr
    simp [effect, State.getV_setFlag, hvf.symm]
  | addIVx _ =>
    have hvf : s.config.addISetsVf = true → r ≠ VF := fun hq => by simpa [registersWritten, hq] using hr
    simpa [effect, State.getV_setIndexFlag] using fun hq h => absurd h (hvf hq)
  | ldVxMi x =>
    have hx : ¬ r ≤ x := by simpa [registersWritten] using hr
    simp [effect, State.getV_loadRegs, hx]
  | ldVxK x =>
    have hx : r ≠ x := List.mem_singleton.not.mp hr
    simp only [effect]
    split
    · exact s.getV_waitRelease hx
    · exact s.getV_waitPress hx
  | _ => exact effect_frame _ s .v (by simp [partsWritten]) r

/-- Settles O27: the registers of the instruction's effect. -/
theorem instructionsWriteOnlyTheirRegisters : Obligations.InstructionsWriteOnlyTheirRegisters := by
  intro i s t h r hr
  obtain ⟨_, rfl⟩ := exec_eq_next.mp h
  exact effect_getV hr

/-! ## The sound timer -/

theorem State.skipIf_setSt (s : State) (b : Byte) (c : Bool) : (s.setSt b).skipIf c = (s.skipIf c).setSt b := by
  cases c <;> rfl

theorem State.setIndexFlag_setSt (s : State) (b : Byte) (f : Bool) :
    (s.setSt b).setIndexFlag f = (s.setIndexFlag f).setSt b := by
  unfold State.setIndexFlag
  rw [apply_ite (State.setSt · b)]; rfl

theorem State.waitPress_setSt (s : State) (b : Byte) (x : Reg) :
    (s.setSt b).waitPress x = (s.waitPress x).setSt b := by
  have hk : (s.setSt b).leastPressed = s.leastPressed := rfl
  simp only [State.waitPress, hk]
  split <;> rfl

theorem State.waitRelease_setSt (s : State) (b : Byte) (x : Reg) :
    (s.setSt b).waitRelease x = (s.waitRelease x).setSt b := by
  have hk : (s.setSt b).leastPressed = s.leastPressed := rfl
  simp only [State.waitRelease, hk, State.setSt_keyWait, State.setSt_pressed]
  split
  · split <;> rfl
  · rw [apply_ite (State.setSt · b)]; rfl

theorem faultOf_setSt (s : State) (b : Byte) (i : Instr) : faultOf (s.setSt b) i = faultOf s i := by
  cases i <;> rfl

/-- Setting `ST` before an instruction is setting it after, for all but the one that writes it (R16, R115). -/
theorem effect_setSt {i : Instr} (hi : ∀ x, i ≠ .ldStVx x) (s : State) (b : Byte) :
    effect (s.setSt b) i = (effect s i).setSt b := by
  cases i with
  | ldStVx x => exact absurd rfl (hi x)
  | ret | call _ =>
    simp only [effect]
    rw [apply_dite (State.setSt · b)]; rfl
  | seVxNn _ _ | sneVxNn _ _ | seVxVy _ _ | sneVxVy _ _ | skp _ | sknp _ => exact s.skipIf_setSt b _
  | addIVx x => exact (s.setI _).setIndexFlag_setSt b _
  | ldVxK x =>
    simp only [effect, State.setSt_config, State.waitRelease_setSt, State.waitPress_setSt]
    rw [apply_ite (State.setSt · b)]
  | _ => rfl

/-- Settles O28: neither the fault nor the effect of an instruction depends on `ST`. -/
theorem soundTimerIsNeverRead : Obligations.SoundTimerIsNeverRead := by
  intro i s b hi
  constructor
  · intro t h
    obtain ⟨hf, rfl⟩ := exec_eq_next.mp h
    exact exec_eq_next.mpr ⟨(faultOf_setSt s b i).trans hf, by rw [effect_setSt hi]; rfl⟩
  · intro f h
    exact exec_eq_fault.mpr ((faultOf_setSt s b i).trans (exec_eq_fault.mp h))

end Sys2Proof.Machine
end

section
/-! PROOFS. Every step keeps `State.Inv`: one rule per state operation, then the instructions, then the host's
operations. -/

namespace Sys2Proof.Machine

/-! ## What each state operation needs to keep the invariant -/

/-- The invariant speaks of five pieces of the state only; that they are the same is usually read off by `simp`. -/
theorem State.Inv.congr {s t : State} (h : s.Inv) (hconfig : t.config = s.config := by simp)
    (hmem : t.mem = s.mem := by simp) (hpc : t.pc = s.pc := by simp) (hstack : t.stack = s.stack := by simp)
    (hkeyWait : t.keyWait = s.keyWait := by simp) : t.Inv := by
  obtain ⟨config, memory, pc, stack, keyWait⟩ := h
  exact ⟨hconfig ▸ config, by rwa [hconfig, hmem], hpc ▸ pc, hstack ▸ stack, by rwa [hconfig, hkeyWait]⟩

theorem State.Inv.setPc {s : State} (h : s.Inv) {w : Word} (hw : w.toNat ≤ 0x10FE) : (s.setPc w).Inv :=
  ⟨h.config, h.memory, hw, h.stack, h.keyWait⟩

theorem State.Inv.setReply {s : State} (h : s.Inv) (q : Reply) : (s.setReply q).Inv := h.congr

theorem State.Inv.setKeyV {s : State} (h : s.Inv) (x : Reg) (k : Key) : (s.setKeyV x k).Inv := h.congr

theorem State.Inv.drop {s : State} (h : s.Inv) : s.drop.Inv := h.congr

theorem State.Inv.dequeue {s : State} (h : s.Inv) : s.dequeue.Inv := h.congr

theorem State.Inv.putBytes {s : State} (h : s.Inv) {a : Nat} {bs : List Byte} (ha : a + bs.length ≤ 4096) :
    (s.putBytes a bs).Inv :=
  ⟨h.config, s.putBytes_wf ha h.memory, h.pc, h.stack, h.keyWait⟩

theorem State.Inv.push {s : State} (h : s.Inv) {a : Word} (hsp : s.sp.val < 16) (ha : a.toNat ≤ 4096) :
    (s.push a hsp).Inv := by
  refine ⟨h.config, h.memory, h.pc, fun k => ?_, h.keyWait⟩
  rw [State.push_stack, Fin.getElem_fin, Vector.getElem_set]
  split
  · exact ha
  · exact h.stack k

theorem State.Inv.skipIf {s : State} (h : s.Inv) (hpc : s.pc.toNat ≤ 4096) (c : Bool) : (s.skipIf c).Inv := by
  unfold State.skipIf
  split
  · exact h.setPc (by rw [BitVec.toNat_add_of_lt] <;> simp <;> omega)
  · exact h

theorem State.Inv.rewind {s : State} (h : s.Inv) (hpc : 2 ≤ s.pc.toNat) : s.rewind.Inv :=
  h.setPc (by
    have hle : s.pc.toNat ≤ 0x10FE := h.pc
    rw [BitVec.toNat_sub_of_le (by simpa [BitVec.le_def] using hpc)]; omega)

theorem State.Inv.waitPress {s : State} (h : s.Inv) (hpc : 2 ≤ s.pc.toNat) (x : Reg) : (s.waitPress x).Inv := by
  unfold State.waitPress
  split
  · exact h.setKeyV x _
  · exact h.rewind hpc

/-- `KEYWAIT` may be written while its quirk is on. -/
theorem State.Inv.setKeyWait {s : State} (h : s.Inv) (hq : s.config.keyWaitRelease = true) (k : Option Key) :
    (s.setKeyWait k).Inv :=
  ⟨h.config, h.memory, h.pc, h.stack, fun hoff => absurd (hq.symm.trans hoff) (by decide)⟩

theorem State.Inv.waitRelease {s : State} (h : s.Inv) (hq : s.config.keyWaitRelease = true) (hpc : 2 ≤ s.pc.toNat)
    (x : Reg) : (s.waitRelease x).Inv := by
  unfold State.waitRelease
  split
  · split
    · exact (h.setKeyWait hq _).rewind hpc
    · exact h.rewind hpc
  · split
    · exact h.rewind hpc
    · exact (h.setKeyV x _).setKeyWait hq none

/-! ## Instructions -/

/-- An address operand is below 4096, so it is a `pc` the invariant allows. -/
theorem addressOperand_lt (nnn : BitVec 12) : (addressOperand nnn).toNat < 4096 :=
  addressOperand_toNat nnn ▸ nnn.isLt

/-- `JP V0`'s sum is at most 0x10FE and so does not wrap (R78). -/
theorem jpV0_target_le (b : Byte) (nnn : BitVec 12) : (offsetOperand b + addressOperand nnn).toNat ≤ 0x10FE := by
  have hb : (offsetOperand b).toNat < 256 := offsetOperand_toNat b ▸ b.isLt
  have hn := addressOperand_lt nnn
  rw [BitVec.toNat_add]; omega

/-- The effect of an instruction that does not fault keeps the invariant; `pc` is past the instruction (R13). -/
theorem effect_keeps_inv {i : Instr} {s : State} (h : s.Inv) (hlo : 2 ≤ s.pc.toNat) (hhi : s.pc.toNat ≤ 4096)
    (hf : faultOf s i = none) : (effect s i).Inv := by
  cases i with
  | ret =>
    simp only [effect]
    split
    next hsp => exact h.drop.setPc (Nat.le_trans (h.stack ⟨s.sp.val - 1, by omega⟩) (by decide))
    · exact h
  | call nnn =>
    simp only [effect]
    split
    next hsp => exact (h.push hsp hhi).setPc (Nat.le_trans (addressOperand_lt nnn).le (by decide))
    · exact h
  | jp nnn => exact h.setPc (Nat.le_trans (addressOperand_lt nnn).le (by decide))
  | jpV0 nnn => exact h.setPc (jpV0_target_le _ nnn)
  | seVxNn _ _ | sneVxNn _ _ | seVxVy _ _ | sneVxVy _ _ | skp _ | sknp _ => exact h.skipIf hhi _
  | ldVxK x =>
    simp only [effect]
    split
    next hq => exact h.waitRelease hq hlo x
    · exact h.waitPress hlo x
  | ldBVx x =>
    have hi : s.i.toNat + 2 ≤ 4095 := by simpa [faultOf] using hf
    exact h.putBytes (by rw [decimalDigits_length]; omega)
  | ldMiVx x =>
    have hi : s.i.toNat + x.val ≤ 4095 := by simpa [faultOf] using hf
    exact h.putBytes (by rw [State.regsUpTo_length]; omega)
  | _ =>
    simp only [effect]
    exact h.congr

/-- A cycle keeps the invariant: the fetch leaves `pc` from 2 to 4096, where every instruction keeps it. -/
theorem cycle_keeps_inv {s t : State} (h : s.Inv) (hs : cycle s = .next t) : t.Inv := by
  obtain ⟨_, hpc, i, _, hexec⟩ := cycle_eq_next hs
  obtain ⟨hf, rfl⟩ := exec_eq_next.mp hexec
  have hnext : (s.pc + 2).toNat = s.pc.toNat + 2 := by rw [BitVec.toNat_add]; simp; omega
  have hfetched : (s.setPc (s.pc + 2)).Inv := h.setPc (by omega)
  exact (effect_keeps_inv hfetched (by rw [State.setPc_pc]; omega) (by rw [State.setPc_pc]; omega) hf).setReply _

/-! ## The host's operations -/

/-- What a tick, a `SetKeys` or a read does: the timers, the keys and the reply are all it can write. -/
theorem perform_eq_next_of_quiet {op : Operation} {s t : State} (hreset : ∀ config rom, op ≠ .reset config rom)
    (hcycle : op ≠ .cycle) (h : perform op s = .next t) :
    s.fault = none ∧ ∃ dt st key q, t = { s with dt := dt, st := st, key := key, reply := q } := by
  cases op with
  | reset config rom => exact absurd rfl (hreset config rom)
  | cycle => exact absurd rfl hcycle
  | tickDelay | tickSound | tickTimers | setKeys =>
    obtain ⟨hf, h⟩ := unlessFaulted_eq_next.mp h
    have ht := done_eq_next.mp h
    exact ⟨hf, _, _, _, _, ht⟩
  | readFramebuffer | readSoundTimer | readDelayTimer =>
    obtain ⟨hf, h⟩ := unlessFaulted_eq_next.mp h
    cases h
    exact ⟨hf, _, _, _, _, rfl⟩

/-- The state `Reset` starts from meets the invariant. -/
theorem fresh_inv {config : Config} (h : config.Valid) : (State.fresh config).Inv :=
  ⟨h, Memory.wf_nil _, show (0x200#16).toNat ≤ 0x10FE by decide, fun k => by simp [State.fresh], fun _ => rfl⟩

theorem reset_establishes_inv {config : Config} {rom : List Byte} {s t : State}
    (h : resetWith config rom s = .next t) : t.Inv := by
  obtain ⟨hrom, hvalid, rfl⟩ := resetWith_eq_next.mp h
  have hloaded : ((State.fresh config).putBytes 0x200 rom).Inv := (fresh_inv hvalid).putBytes (by omega)
  exact hloaded.congr

theorem perform_keeps_inv {op : Operation} {s t : State} (h : s.Inv) (hs : perform op s = .next t) : t.Inv := by
  by_cases hreset : ∃ config rom, op = .reset config rom
  · obtain ⟨config, rom, rfl⟩ := hreset
    exact reset_establishes_inv hs
  by_cases hcycle : op = .cycle
  · subst hcycle
    exact cycle_keeps_inv h hs
  · obtain ⟨_, dt, st, key, q, rfl⟩ :=
      perform_eq_next_of_quiet (fun config rom e => hreset ⟨config, rom, e⟩) hcycle hs
    exact h.congr

/-- Settles O18: a step is one operation, and each keeps the invariant. -/
theorem stepKeepsTheInvariant : Obligations.StepKeepsTheInvariant :=
  fun _ _ h hs => perform_keeps_inv h.dequeue hs

end Sys2Proof.Machine
end

section
/-! PROOFS. The state after `Reset`, the canonical memory, and the fault latch. -/

namespace Sys2Proof.Machine

/-! ## The reset state -/

/-- `State.reset` is what an accepted `Reset` leaves (R140; log entry 6). -/
theorem perform_reset_default : perform (.reset Config.default []) State.reset = .next State.reset :=
  resetWith_eq_next.mpr ⟨by decide, by decide, rfl⟩

/-- Registers, `pc`, stack and timers after an accepted `Reset` are those of `State.fresh` (R23, R25, R26). -/
theorem reset_registers {config : Config} {rom : List Byte} {s t : State}
    (h : perform (.reset config rom) s = .next t) :
    (∀ r, t.getV r = 0) ∧ t.pc = 0x200 ∧ t.sp = 0 ∧ (∀ k : Fin 16, t.stack[k] = 0) ∧ t.dt = 0 ∧ t.st = 0 := by
  obtain ⟨_, _, rfl⟩ := resetWith_eq_next.mp h
  exact ⟨fun r => by simp [State.getV, State.fresh], rfl, rfl, fun k => by simp [State.fresh], rfl, rfl⟩

/-- Settles O13: `State.reset` is itself the answer of a `Reset`. -/
theorem resetZeroesRegistersTimersStack : Obligations.ResetZeroesRegistersTimersStack := by
  intro t ht
  obtain ⟨config, rom, s, h⟩ : ∃ config rom s, perform (.reset config rom) s = .next t := by
    rcases ht with rfl | h
    · exact ⟨_, _, _, perform_reset_default⟩
    · exact h
  obtain ⟨hv, hpc, hsp, hstack, hdt, hst⟩ := reset_registers h
  have hfetch := fetch_of_le (s := t) (by rw [hpc]; decide)
  rw [hpc] at hfetch
  exact ⟨hv, hpc, hsp, hstack, hdt, hst, hfetch⟩

/-- Settles O14: the fields of `State.fresh`, which loading the ROM leaves. -/
theorem resetClearsIndexDisplayKeysLatches : Obligations.ResetClearsIndexDisplayKeysLatches := by
  intro config rom s t h
  obtain ⟨_, _, rfl⟩ := resetWith_eq_next.mp h
  exact ⟨rfl, fun row col => by simp [State.pixel, State.fresh], fun k => by simp [State.pressed, State.fresh], rfl,
    rfl, rfl⟩

/-- Settles O17: the default configuration is valid, and no key is latched. -/
theorem resetMeetsTheInvariants : Obligations.ResetMeetsTheInvariants :=
  ⟨fresh_inv (config := Config.default) (by decide), fun h => absurd rfl h⟩

/-! ## Memory after `Reset` -/

/-- Memory after an accepted `Reset`: the ROM's byte, or what the address reads as unlisted. -/
theorem byteAt_of_reset {config : Config} {rom : List Byte} {s t : State}
    (h : perform (.reset config rom) s = .next t) (a : Nat) :
    t.byteAt a = if 0x200 ≤ a then (rom[a - 0x200]?).getD (unlisted config.fontBase a)
      else unlisted config.fontBase a := by
  obtain ⟨_, _, rfl⟩ := resetWith_eq_next.mp h
  exact State.byteAt_putBytes (State.fresh config) 0x200 a rom

theorem fontTable_length : fontTable.length = 80 := rfl

/-- A font address reads as the font's byte. -/
theorem unlisted_font (base : Nat) {k : Nat} (hk : k < fontTable.length) : unlisted base (base + k) = fontTable[k] := by
  simp [unlisted, hk]

/-- Every address outside the font reads as 0. -/
theorem unlisted_of_not_font {base a : Nat} (ha : ¬ (base ≤ a ∧ a < base + 80)) : unlisted base a = 0 := by
  unfold unlisted
  split
  next hle => exact List.getD_eq_default _ _ (by rw [fontTable_length]; omega)
  · rfl

/-- Settles O15: byte by byte; the ROM starts above the font, so the two do not meet. -/
theorem resetFillsMemory : Obligations.ResetFillsMemory := by
  intro config rom s hvalid hrom
  have hnext := resetWith_eq_next (s := s).mpr ⟨hrom, hvalid, rfl⟩
  have hfont : config.fontBase + 80 ≤ 0x200 := hvalid
  refine ⟨_, hnext, fun k hk => ?_, fun k hk => ?_, fun a _ hout hnofont => ?_⟩
  · rw [byteAt_of_reset hnext]
    simp [hk]
  · have hk80 : k < 80 := hk
    rw [byteAt_of_reset hnext, if_neg (by omega), unlisted_font _ hk]
  · rw [byteAt_of_reset hnext, unlisted_of_not_font hnofont]
    split
    next hle => rw [List.getElem?_eq_none (by omega)]; rfl
    · rfl

/-! ## The canonical form -/

/-- In a list with rising addresses the byte found at an address is the one listed for it. -/
theorem Memory.find_eq_some {m : Memory} (hm : m.Pairwise (fun c d => c.1 < d.1)) {a : Nat} {v : Byte} :
    Memory.find m a = some v ↔ (a, v) ∈ m := by
  induction m with
  | nil => simp [Memory.find]
  | cons d rest ih =>
    obtain ⟨hfirst, hrest⟩ := List.pairwise_cons.mp hm
    rw [Memory.find, List.mem_cons, Prod.mk.injEq]
    split
    next heq =>
      have hnot : (a, v) ∉ rest := fun hmem => absurd (hfirst _ hmem) (by simp [heq])
      simp [hnot, heq, eq_comm]
    next hne => simp [ih hrest, Ne.symm hne]

/-- A canonical memory lists a cell exactly when the address reads as a byte that is not its unlisted one. -/
theorem Memory.mem_iff_read {base : Nat} {m : Memory} (hm : Memory.wf base m) {c : Host.Cell} :
    c ∈ m ↔ Memory.read base m c.1 = c.2 ∧ c.2 ≠ unlisted base c.1 := by
  obtain ⟨hsorted, hcells⟩ := hm
  rw [← Memory.find_eq_some hsorted, Memory.read]
  constructor
  · intro hfind
    exact ⟨by rw [hfind]; rfl, (hcells c ((Memory.find_eq_some hsorted).mp hfind)).2⟩
  · rintro ⟨hread, hne⟩
    cases hfind : Memory.find m c.1 with
    | none => rw [hfind] at hread; exact absurd hread.symm hne
    | some v => rw [hfind] at hread; exact congrArg some hread

/-- Settles O20: equal reads list equal cells, and a strictly rising list is determined by its cells. -/
theorem canonicalMemoryIsUnique : Obligations.CanonicalMemoryIsUnique := by
  intro base m m' hm hm' hread
  have hcells : ∀ c, c ∈ m ↔ c ∈ m' := fun c => by
    rw [Memory.mem_iff_read hm, Memory.mem_iff_read hm', hread]
  have hperm : m.Perm m' := by
    refine (List.perm_ext_iff_of_nodup ?_ ?_).mpr hcells
    · exact hm.1.imp fun hlt heq => by simp [heq] at hlt
    · exact hm'.1.imp fun hlt heq => by simp [heq] at hlt
  exact hperm.eq_of_pairwise (fun c d _ _ hcd hdc => absurd hcd (Nat.lt_asymm hdc)) hm.1 hm'.1

/-! ## The fault latch -/

/-- With a fault latched every operation but `Reset` is refused (R67, R128). -/
theorem perform_of_faulted {s : State} {f : Fault} (hf : s.fault = some f) {op : Operation}
    (hreset : ∀ config rom, op ≠ .reset config rom) : perform op s = .refused (.faultedInstance f) := by
  cases op with
  | reset config rom => exact absurd rfl (hreset config rom)
  | _ => exact unlessFaulted_of_some _ hf

theorem after_of_fault {s : State} {f : Fault} (h : step s = .fault f) : s.after = latchFault f s.dequeue := by
  unfold State.after; rw [h]

theorem after_of_refused {s : State} {r : Refusal} (h : step s = .refused r) : s.after = s.dequeue := by
  unfold State.after; rw [h]

/-- The next operation is no `Reset` when none is scheduled. -/
theorem nextOperation_ne_reset {s : State} (h : ∀ op ∈ s.schedule, ∀ config rom, op ≠ .reset config rom)
    (config : Config) (rom : List Byte) : s.nextOperation ≠ .reset config rom := by
  unfold State.nextOperation
  split
  · simp
  next op rest hs => exact h op (by simp [hs]) config rom

/-- With a fault latched and no `Reset` scheduled, an operation is dropped and nothing else happens. -/
theorem after_of_faulted {s : State} {f : Fault} (hf : s.fault = some f)
    (h : ∀ op ∈ s.schedule, ∀ config rom, op ≠ .reset config rom) : s.after = s.dequeue :=
  after_of_refused (perform_of_faulted (s := s.dequeue) hf (nextOperation_ne_reset h))

/-- Any number of operations without a `Reset` leave the latch (R20, R128). -/
theorem fault_afterMany {f : Fault} (k : Nat) {s : State} (hf : s.fault = some f)
    (h : ∀ op ∈ s.schedule, ∀ config rom, op ≠ .reset config rom) : (s.afterMany k).fault = some f := by
  induction k generalizing s with
  | zero => exact hf
  | succ k ih =>
    rw [State.afterMany, after_of_faulted hf h]
    exact ih hf fun op hop => h op (List.mem_of_mem_tail hop)

/-- The model's fault codes are those of R120's table (D34). -/
theorem code_eq_codeOfR120 (f : Fault) : f.code = codeOfR120 f := by
  cases f <;> rfl

/-- Settles O25: a fault is latched by `latchFault`, and the latch holds by induction on the operations. -/
theorem faultLatchIsSticky : Obligations.FaultLatchIsSticky := by
  constructor
  · intro s f h
    rw [after_of_fault h]
    exact ⟨rfl, rfl, code_eq_codeOfR120 f⟩
  · exact fun k _ _ hf h => fault_afterMany k hf h

end Sys2Proof.Machine
end

section
/-! PROOFS. The font in memory after `Reset`, and a store over the next instruction. -/

namespace Sys2Proof.Machine

/-! ## The font -/

/-- Where a state holds the font from `base`, a run of its bytes is that run of the font table. -/
theorem State.bytesAt_of_font {s : State} {base : Nat}
    (hfont : ∀ k (h : k < fontTable.length), s.byteAt (base + k) = fontTable[k]) {a n : Nat}
    (han : a + n ≤ fontTable.length) : s.bytesAt (base + a) n = (fontTable.drop a).take n := by
  refine List.ext_getElem (by simp; omega) fun k hk _ => ?_
  have hkn : k < n := by simpa using hk
  simp [State.bytesAt, Nat.add_assoc, hfont (a + k) (by omega)]

/-- Settles O58: memory holds the font table (`resetFillsMemory`), and its two halves are the bytes written out. -/
theorem fontBytesAreWrittenOut : Obligations.FontBytesAreWrittenOut := by
  intro config rom s hvalid hrom
  obtain ⟨t, hnext, _, hfont, _⟩ := resetFillsMemory config rom s hvalid hrom
  exact ⟨t, hnext, State.bytesAt_of_font hfont (a := 0) (n := 40) (by decide),
    State.bytesAt_of_font hfont (a := 40) (n := 40) (by decide)⟩

/-! ## A store over the next instruction -/

/-- Memory after a completed `LD [I], Vx`: `V[k]` at `I + k` up to `V[x]`, above them what was there (R99). -/
theorem byteAt_of_ldMiVx {x : Reg} {s t : State} (h : exec (.ldMiVx x) s = .next t) (k : Nat) :
    t.byteAt (s.i.toNat + k) = if hk : k ≤ x.val then s.getV ⟨k, by omega⟩ else s.byteAt (s.i.toNat + k) := by
  obtain ⟨_, rfl⟩ := exec_eq_next.mp h
  simp only [effect, State.setReply_byteAt, State.byteAt_putBytes, Nat.le_add_right, if_true, Nat.add_sub_cancel_left,
    State.regsUpTo_getElem?]
  split <;> rfl

/-- A completed `LD [I], Vx` leaves `pc` past the instruction. -/
theorem pc_of_ldMiVx {x : Reg} {s t : State} (h : exec (.ldMiVx x) s = .next t) : t.pc = s.pc := by
  obtain ⟨_, rfl⟩ := exec_eq_next.mp h
  rfl

/-- Settles O21: the fetch reads from `I` and `I + 1`, where the store put `V[0]` and, unless `x = 0`, `V[1]`. -/
theorem storeSeenByTheNextFetch : Obligations.StoreSeenByTheNextFetch := by
  intro x s t hi hpc h
  have hhigh : t.byteAt s.pc.toNat = s.getV 0 := by simpa [hi] using byteAt_of_ldMiVx h 0
  have hlow : t.byteAt (s.pc.toNat + 1) = if x = 0 then s.byteAt (s.pc.toNat + 1) else s.getV 1 := by
    rw [← hi, byteAt_of_ldMiVx h 1]
    by_cases hx : x = 0
    · simp [hx]
    · have hone : 1 ≤ x.val := Nat.pos_of_ne_zero fun h0 => hx (Fin.ext h0)
      rw [dif_pos hone, if_neg hx]
      rfl
  rw [fetch_of_le (s := t) (by rwa [pc_of_ldMiVx h]), pc_of_ldMiVx h, hhigh, hlow]

end Sys2Proof.Machine
end

section
/-! PROOFS. The encoder and the decoder are inverse to each other, and the words that are no instruction. -/

namespace Sys2Proof.Machine

/-! ## The fields of the encoder's words -/

@[simp] theorem fieldG_encodeA (g : BitVec 4) (nnn : BitVec 12) : fieldG (encodeA g nnn) = g := by
  rw [encodeA_eq_wordA, fieldG_wordA nnn g.isLt, BitVec.ofNat_toNat, BitVec.setWidth_eq]

@[simp] theorem fieldNnn_encodeA (g : BitVec 4) (nnn : BitVec 12) : fieldNnn (encodeA g nnn) = nnn := by
  rw [encodeA_eq_wordA, fieldNnn_wordA nnn g.isLt]

@[simp] theorem fieldG_encodeXI (g : BitVec 4) (x : Reg) (nn : Byte) : fieldG (encodeXI g x nn) = g := by
  rw [encodeXI_eq_wordXI, fieldG_wordXI x g.isLt nn.isLt, BitVec.ofNat_toNat, BitVec.setWidth_eq]

@[simp] theorem fieldX_encodeXI (g : BitVec 4) (x : Reg) (nn : Byte) : fieldX (encodeXI g x nn) = x := by
  rw [encodeXI_eq_wordXI, fieldX_wordXI x g.isLt nn.isLt]

@[simp] theorem fieldNn_encodeXI (g : BitVec 4) (x : Reg) (nn : Byte) : fieldNn (encodeXI g x nn) = nn := by
  rw [encodeXI_eq_wordXI, fieldNn_wordXI x g.isLt nn.isLt, BitVec.ofNat_toNat, BitVec.setWidth_eq]

@[simp] theorem fieldG_encodeXYN (g : BitVec 4) (x y : Reg) (n : BitVec 4) : fieldG (encodeXYN g x y n) = g := by
  rw [encodeXYN_eq_wordXYN, fieldG_wordXYN x y g.isLt n.isLt, BitVec.ofNat_toNat, BitVec.setWidth_eq]

@[simp] theorem fieldX_encodeXYN (g : BitVec 4) (x y : Reg) (n : BitVec 4) : fieldX (encodeXYN g x y n) = x := by
  rw [encodeXYN_eq_wordXYN, fieldX_wordXYN x y g.isLt n.isLt]

@[simp] theorem fieldY_encodeXYN (g : BitVec 4) (x y : Reg) (n : BitVec 4) : fieldY (encodeXYN g x y n) = y := by
  rw [encodeXYN_eq_wordXYN, fieldY_wordXYN x y g.isLt n.isLt]

@[simp] theorem fieldN_encodeXYN (g : BitVec 4) (x y : Reg) (n : BitVec 4) : fieldN (encodeXYN g x y n) = n := by
  rw [encodeXYN_eq_wordXYN, fieldN_wordXYN x y g.isLt n.isLt, BitVec.ofNat_toNat, BitVec.setWidth_eq]

/-- Words of one group with an address differ in the address. -/
theorem encodeA_inj {g : BitVec 4} {a b : BitVec 12} : encodeA g a = encodeA g b ↔ a = b :=
  ⟨fun h => by simpa using congrArg fieldNnn h, congrArg _⟩

/-! ## Every instruction decodes from its word -/

/-- The slot of `SYS`: group 0 without the words of `CLS` and `RET` (R52). -/
theorem decode_encode_sys {nnn : BitVec 12} (hcls : nnn ≠ 0x0E0#12) (hret : nnn ≠ 0x0EE#12) :
    decode (encode (.sys nnn)) = .ok (.sys nnn) := by
  have hcls' : encodeA 0x0#4 nnn ≠ 0x00E0#16 := encodeA_inj.not.mpr hcls
  have hret' : encodeA 0x0#4 nnn ≠ 0x00EE#16 := encodeA_inj.not.mpr hret
  rw [encode, decode_group0 (fieldG_encodeA _ _), if_neg hcls', if_neg hret', fieldNnn_encodeA]

/-- Settles O1: the group's line of `Decode` reads the operands back from their fields. -/
theorem decodeOfEncode : Obligations.DecodeOfEncode := by
  intro i hwf
  cases i with
  | cls | ret => rfl
  | sys nnn =>
    obtain ⟨hcls, hret⟩ : nnn ≠ 0x0E0#12 ∧ nnn ≠ 0x0EE#12 := by simpa [Instr.wellFormed] using hwf
    exact decode_encode_sys hcls hret
  | jp nnn | call nnn | ldINnn nnn | jpV0 nnn =>
    simp [encode, decode_group1, decode_group2, decode_groupA, decode_groupB]
  | seVxNn x nn | sneVxNn x nn | ldVxNn x nn | addVxNn x nn | rnd x nn =>
    simp [encode, decode_group3, decode_group4, decode_group6, decode_group7, decode_groupC]
  | seVxVy x y | sneVxVy x y | drw x y n => simp [encode, decode_group5, decode_group9, decode_groupD]
  | ldVxVy x y | orVxVy x y | andVxVy x y | xorVxVy x y | addVxVy x y | subVxVy x y | shrVxVy x y | subnVxVy x y
  | shlVxVy x y => simp [encode, decode_group8, decodeGroup8]
  | skp x | sknp x => simp [encode, decode_groupE, decodeGroupE]
  | ldVxDt x | ldVxK x | ldDtVx x | ldStVx x | addIVx x | ldFVx x | ldBVx x | ldMiVx x | ldVxMi x =>
    simp [encode, decode_groupF, decodeGroupF]

/-! ## A word that decodes is the word of its instruction -/

/-- The sixteen groups (R52). -/
theorem group_cases (g : BitVec 4) : g = 0x0#4 ∨ g = 0x1#4 ∨ g = 0x2#4 ∨ g = 0x3#4 ∨ g = 0x4#4 ∨ g = 0x5#4 ∨ g = 0x6#4 ∨
    g = 0x7#4 ∨ g = 0x8#4 ∨ g = 0x9#4 ∨ g = 0xA#4 ∨ g = 0xB#4 ∨ g = 0xC#4 ∨ g = 0xD#4 ∨ g = 0xE#4 ∨ g = 0xF#4 := by
  revert g; decide

theorem encodeA_of_group {op : Word} {g : BitVec 4} (hg : fieldG op = g) : encodeA g (fieldNnn op) = op := by
  apply BitVec.eq_of_toNat_eq
  rw [← hg, encodeA_eq_wordA, toNat_wordA _ (fieldG op).isLt, fieldG_toNat, fieldNnn_toNat]; omega

theorem encodeXI_of_group {op : Word} {g : BitVec 4} (hg : fieldG op = g) :
    encodeXI g (fieldX op) (fieldNn op) = op := by
  apply BitVec.eq_of_toNat_eq
  rw [← hg, encodeXI_eq_wordXI, toNat_wordXI _ (fieldG op).isLt (fieldNn op).isLt, fieldG_toNat, fieldX_val,
    fieldNn_toNat]
  omega

theorem encodeXYN_of_group {op : Word} {g : BitVec 4} (hg : fieldG op = g) :
    encodeXYN g (fieldX op) (fieldY op) (fieldN op) = op := by
  apply BitVec.eq_of_toNat_eq
  rw [← hg, encodeXYN_eq_wordXYN, toNat_wordXYN _ _ (fieldG op).isLt (fieldN op).isLt, fieldG_toNat, fieldX_val,
    fieldY_val, fieldN_toNat]
  omega

theorem encode_of_decodeGroup8 {x y : Reg} {n : BitVec 4} {i : Instr} (h : decodeGroup8 x y n = .ok i) :
    encode i = encodeXYN 0x8#4 x y n ∧ i.wellFormed = true := by
  unfold decodeGroup8 at h
  split at h <;> cases h <;> exact ⟨rfl, rfl⟩

theorem encode_of_decodeGroupE {x : Reg} {nn : Byte} {i : Instr} (h : decodeGroupE x nn = .ok i) :
    encode i = encodeXI 0xE#4 x nn ∧ i.wellFormed = true := by
  unfold decodeGroupE at h
  split at h <;> cases h <;> exact ⟨rfl, rfl⟩

theorem encode_of_decodeGroupF {x : Reg} {nn : Byte} {i : Instr} (h : decodeGroupF x nn = .ok i) :
    encode i = encodeXI 0xF#4 x nn ∧ i.wellFormed = true := by
  unfold decodeGroupF at h
  split at h <;> cases h <;> exact ⟨rfl, rfl⟩

/-- Group 0: `CLS` and `RET` on all 16 bits, and `SYS` with any other address (R52). -/
theorem encode_of_decode_group0 {op : Word} {i : Instr} (hg : fieldG op = 0x0#4) (h : decode op = .ok i) :
    encode i = op ∧ i.wellFormed = true := by
  rw [decode_group0 hg] at h
  have hop : encodeA 0x0#4 (fieldNnn op) = op := encodeA_of_group hg
  split_ifs at h with hcls hret <;> cases h
  · exact ⟨hcls.symm, rfl⟩
  · exact ⟨hret.symm, rfl⟩
  · refine ⟨hop, ?_⟩
    have hne : fieldNnn op ≠ 0x0E0#12 ∧ fieldNnn op ≠ 0x0EE#12 :=
      ⟨fun he => hcls (by rw [← hop, he]; rfl), fun he => hret (by rw [← hop, he]; rfl)⟩
    simpa [Instr.wellFormed] using hne

/-- Settles O2: group by group, the word is its group and the fields that the decoder read. -/
theorem encodeOfDecode : Obligations.EncodeOfDecode := by
  intro op i h
  rcases group_cases (fieldG op) with
    hg | hg | hg | hg | hg | hg | hg | hg | hg | hg | hg | hg | hg | hg | hg | hg
  · exact encode_of_decode_group0 hg h
  · cases (decode_group1 hg).symm.trans h; exact ⟨encodeA_of_group hg, rfl⟩
  · cases (decode_group2 hg).symm.trans h; exact ⟨encodeA_of_group hg, rfl⟩
  · cases (decode_group3 hg).symm.trans h; exact ⟨encodeXI_of_group hg, rfl⟩
  · cases (decode_group4 hg).symm.trans h; exact ⟨encodeXI_of_group hg, rfl⟩
  · rw [decode_group5 hg] at h
    split_ifs at h with hn
    cases h; exact ⟨by simpa [encode, hn] using encodeXYN_of_group hg, rfl⟩
  · cases (decode_group6 hg).symm.trans h; exact ⟨encodeXI_of_group hg, rfl⟩
  · cases (decode_group7 hg).symm.trans h; exact ⟨encodeXI_of_group hg, rfl⟩
  · simpa [encodeXYN_of_group hg] using encode_of_decodeGroup8 ((decode_group8 hg).symm.trans h)
  · rw [decode_group9 hg] at h
    split_ifs at h with hn
    cases h; exact ⟨by simpa [encode, hn] using encodeXYN_of_group hg, rfl⟩
  · cases (decode_groupA hg).symm.trans h; exact ⟨encodeA_of_group hg, rfl⟩
  · cases (decode_groupB hg).symm.trans h; exact ⟨encodeA_of_group hg, rfl⟩
  · cases (decode_groupC hg).symm.trans h; exact ⟨encodeXI_of_group hg, rfl⟩
  · cases (decode_groupD hg).symm.trans h; exact ⟨encodeXYN_of_group hg, rfl⟩
  · simpa [encodeXI_of_group hg] using encode_of_decodeGroupE ((decode_groupE hg).symm.trans h)
  · simpa [encodeXI_of_group hg] using encode_of_decodeGroupF ((decode_groupF hg).symm.trans h)

/-! ## The words that are no instruction -/

theorem decodeGroup8_unmatched_iff {x y : Reg} {n : BitVec 4} :
    (∀ i, decodeGroup8 x y n ≠ .ok i) ↔ n.toNat ∈ [0x8, 0x9, 0xA, 0xB, 0xC, 0xD, 0xF] := by
  unfold decodeGroup8
  split <;> simp_all [BitVec.toNat_eq]
  -- what is left is the line that rejects: `n` is none of the nine operations
  omega

theorem decodeGroupE_unmatched_iff {x : Reg} {nn : Byte} :
    (∀ i, decodeGroupE x nn ≠ .ok i) ↔ nn.toNat ∉ [0x9E, 0xA1] := by
  unfold decodeGroupE
  split <;> simp_all [BitVec.toNat_eq]

theorem decodeGroupF_unmatched_iff {x : Reg} {nn : Byte} :
    (∀ i, decodeGroupF x nn ≠ .ok i) ↔ nn.toNat ∉ [0x07, 0x0A, 0x15, 0x18, 0x1E, 0x29, 0x33, 0x55, 0x65] := by
  unfold decodeGroupF
  split <;> simp_all [BitVec.toNat_eq]

theorem toNat_div_of_group {op : Word} {g : BitVec 4} (hg : fieldG op = g) : op.toNat / 0x1000 = g.toNat := by
  rw [← hg, fieldG_toNat]

theorem fieldN_eq_zero_iff {op : Word} : fieldN op = 0x0#4 ↔ op.toNat % 0x10 = 0 := by
  rw [BitVec.toNat_eq, fieldN_toNat]; rfl

/-- R53's table, group by group: the other groups always match. -/
theorem decode_unmatched_iff (op : Word) : (∀ i, decode op ≠ .ok i) ↔
    (op.toNat / 0x1000 = 0x5 ∧ op.toNat % 0x10 ≠ 0) ∨
    (op.toNat / 0x1000 = 0x9 ∧ op.toNat % 0x10 ≠ 0) ∨
    (op.toNat / 0x1000 = 0x8 ∧ op.toNat % 0x10 ∈ [0x8, 0x9, 0xA, 0xB, 0xC, 0xD, 0xF]) ∨
    (op.toNat / 0x1000 = 0xE ∧ op.toNat % 0x100 ∉ [0x9E, 0xA1]) ∨
    (op.toNat / 0x1000 = 0xF ∧ op.toNat % 0x100 ∉ [0x07, 0x0A, 0x15, 0x18, 0x1E, 0x29, 0x33, 0x55, 0x65]) := by
  rcases group_cases (fieldG op) with
    hg | hg | hg | hg | hg | hg | hg | hg | hg | hg | hg | hg | hg | hg | hg | hg <;>
    have hdiv := toNat_div_of_group hg
  · simp [decode_group0 hg, hdiv]
  · simp [decode_group1 hg, hdiv]
  · simp [decode_group2 hg, hdiv]
  · simp [decode_group3 hg, hdiv]
  · simp [decode_group4 hg, hdiv]
  · by_cases hn : fieldN op = 0x0#4 <;> simp [decode_group5 hg, hdiv, hn, ← fieldN_eq_zero_iff]
  · simp [decode_group6 hg, hdiv]
  · simp [decode_group7 hg, hdiv]
  · rw [decode_group8 hg, decodeGroup8_unmatched_iff, fieldN_toNat]; simp [hdiv]
  · by_cases hn : fieldN op = 0x0#4 <;> simp [decode_group9 hg, hdiv, hn, ← fieldN_eq_zero_iff]
  · simp [decode_groupA hg, hdiv]
  · simp [decode_groupB hg, hdiv]
  · simp [decode_groupC hg, hdiv]
  · simp [decode_groupD hg, hdiv]
  · rw [decode_groupE hg, decodeGroupE_unmatched_iff, fieldNn_toNat]; simp [hdiv]
  · rw [decode_groupF hg, decodeGroupF_unmatched_iff, fieldNn_toNat]; simp [hdiv]

/-- The word of a `SYS` is its address. -/
theorem toNat_encode_sys (nnn : BitVec 12) : (encode (.sys nnn)).toNat = nnn.toNat := by
  rw [encode, encodeA_eq_wordA, toNat_wordA nnn (by decide)]; simp

/-- By both round trips: a word that decodes to `SYS` is that `SYS`'s word, and a `SYS`'s word decodes to it. -/
theorem decode_eq_sys_iff (op : Word) : (∃ nnn, decode op = .ok (.sys nnn)) ↔
    op.toNat < 0x1000 ∧ op.toNat ≠ 0x00E0 ∧ op.toNat ≠ 0x00EE := by
  constructor
  · rintro ⟨nnn, h⟩
    obtain ⟨rfl, hwf⟩ := encodeOfDecode _ _ h
    have hne : nnn.toNat ≠ 0x00E0 ∧ nnn.toNat ≠ 0x00EE := by simpa [Instr.wellFormed, BitVec.toNat_eq] using hwf
    rw [toNat_encode_sys]
    exact ⟨nnn.isLt, hne⟩
  · rintro ⟨hlt, hcls, hret⟩
    have hnnn : (fieldNnn op).toNat = op.toNat := by rw [fieldNnn_toNat, Nat.mod_eq_of_lt hlt]
    have hop : encode (.sys (fieldNnn op)) = op := BitVec.eq_of_toNat_eq ((toNat_encode_sys _).trans hnnn)
    have hwf : (Instr.sys (fieldNnn op)).wellFormed = true := by
      simp [Instr.wellFormed, BitVec.toNat_eq, hnnn, hcls, hret]
    exact ⟨fieldNnn op, by simpa [hop] using decodeOfEncode _ hwf⟩

/-- Settles O3: R53's table and the slot of `SYS`. -/
theorem unmatchedWordsExact : Obligations.UnmatchedWordsExact := ⟨decode_unmatched_iff, decode_eq_sys_iff⟩

/-! ## Twelve words -/

/-- Settles O4: the decoder evaluated on the twelve words. -/
theorem sampleWordsDecode : Obligations.SampleWordsDecode := by
  unfold Obligations.SampleWordsDecode
  decide

end Sys2Proof.Machine
end

section
/-! PROOFS. A cycle as `exec` of the instruction at `pc`, the host's other operations, and what each operation leaves
unchanged. -/

namespace Sys2Proof.Machine

/-! ## The cycle -/

/-- `Cycle()` of R61 when the word at `pc` decodes: its instruction runs with `pc` past it. -/
theorem cycle_of_decode {s : State} {i : Instr} (hf : s.fault = none) (hpc : s.pc.toNat ≤ 4094)
    (hi : decode s.nextWord = .ok i) : cycle s = exec i (s.setPc (s.pc + 2)) := by
  have hi' : decode (wordOfBytes (s.byteAt s.pc.toNat) (s.byteAt (s.pc.toNat + 1))) = .ok i := hi
  simp only [cycle, unlessFaulted_of_none _ hf, fetch_of_le hpc, hi']

theorem State.dequeue_of_nil {s : State} (h : s.schedule = []) : s.dequeue = s := by
  unfold State.dequeue; rw [h, List.tail_nil, ← h]

theorem State.dequeue_of_cons {s : State} {op : Operation} {rest : List Operation} (h : s.schedule = op :: rest) :
    s.dequeue = { s with schedule := rest } := by
  unfold State.dequeue; rw [h, List.tail_cons]

/-- Settles O5: the schedule's head is performed, and a cycle fetches and decodes `nextWord`, whose bytes the schedule does
not touch. -/
theorem stepRunsTheDecodedInstruction : Obligations.StepRunsTheDecodedInstruction := by
  refine ⟨fun s op rest h => ?_, fun s h => ?_, fun s i hop hf hpc hi => ?_⟩
  · rw [step_of_cons h, State.dequeue_of_cons h]
  · rw [step_of_nil h, State.dequeue_of_nil h]; rfl
  · rw [step, hop]
    exact cycle_of_decode (s := s.dequeue) hf hpc hi

/-! ## The reply of a cycle -/

theorem drawsScreen_iff {i : Instr} : drawsScreen i = true ↔ i = .cls ∨ ∃ x y n, i = .drw x y n := by
  cases i <;> simp [drawsScreen]

/-- Settles O7: the reply of a completed instruction is `ok` of `drawsScreen`. -/
theorem fbChangedOnlyByClearAndDraw : Obligations.FbChangedOnlyByClearAndDraw := by
  intro i s t h
  obtain ⟨_, rfl⟩ := exec_eq_next.mp h
  rw [← drawsScreen_iff]
  exact ⟨fun hdraws => by rw [State.setReply_reply, hdraws],
    fun hnot => by rw [State.setReply_reply, Bool.eq_false_iff.mpr hnot]⟩

/-! ## Programs that stay where they are -/

/-- `JP a` decodes from its word (R51, R72). -/
theorem decode_wordA_jp (nnn : BitVec 12) : decode (wordA 1 nnn) = .ok (.jp nnn) := by
  rw [decode_group1 (fieldG_wordA nnn (by decide)), fieldNnn_wordA nnn (by decide)]

/-- The word at `pc` of a stopped program is the jump to `pc` (R68). -/
theorem State.StoppedAt.decode_nextWord {s : State} {a : Nat} (h : s.StoppedAt a) :
    decode s.nextWord = .ok (.jp (BitVec.ofNat 12 a)) := by
  have ha : a ≤ 4094 := h.inMemory
  have hword : s.nextWord = wordA 1 (BitVec.ofNat 12 a) := by
    rw [h.word, wordA, BitVec.toNat_ofNat, Nat.mod_eq_of_lt (by omega)]
  rw [hword, decode_wordA_jp]

theorem State.StoppedAt.target_eq_pc {s : State} {a : Nat} (h : s.StoppedAt a) :
    addressOperand (BitVec.ofNat 12 a) = s.pc := by
  have ha : a ≤ 4094 := h.inMemory
  apply BitVec.eq_of_toNat_eq
  rw [addressOperand_toNat, BitVec.toNat_ofNat, h.pc, Nat.mod_eq_of_lt (by omega)]

/-- The jump of a stopped program goes back to where the fetch started. -/
theorem exec_of_stoppedAt {s : State} {a : Nat} (h : s.StoppedAt a) :
    exec (.jp (BitVec.ofNat 12 a)) (s.setPc (s.pc + 2)) = .next (s.setReply (.ok false)) := by
  refine exec_eq_next.mpr ⟨rfl, ?_⟩
  rw [effect, h.target_eq_pc]
  rfl

/-- A rewind undoes the fetch's advance of `pc` (R13). -/
theorem State.rewind_setPc_add_two (s : State) : (s.setPc (s.pc + 2)).rewind = s := by
  unfold State.rewind
  rw [State.setPc_pc, BitVec.add_sub_cancel]
  rfl

/-- `LD Vx, K` with no key pressed and the release quirk off only rewinds (R112). -/
theorem exec_ldVxK_of_none_pressed {s : State} (x : Reg) (hq : s.config.keyWaitRelease = false)
    (hnone : ∀ k, s.pressed k = false) :
    exec (.ldVxK x) (s.setPc (s.pc + 2)) = .next (s.setReply (.ok false)) := by
  have hleast : (s.setPc (s.pc + 2)).leastPressed = none := State.leastPressed_eq_none.mpr hnone
  have hstay : (s.setPc (s.pc + 2)).waitPress x = s := by
    rw [State.waitPress, hleast]
    exact s.rewind_setPc_add_two
  refine exec_eq_next.mpr ⟨rfl, ?_⟩
  rw [effect, State.setPc_config, hq, if_neg Bool.false_ne_true, hstay]
  rfl

/-- Settles O12: both programs' cycles run one instruction that puts `pc` back. -/
theorem stoppedAndWaitingProgramsStay : Obligations.StoppedAndWaitingProgramsStay := by
  refine ⟨fun s a hs hstop => ?_, fun s x hs hf hpc hi hq hnone => ?_⟩
  · have hpc : s.pc.toNat ≤ 4094 := hstop.pc ▸ hstop.inMemory
    rw [step_of_nil hs, State.dequeue_of_nil hs, cycle_of_decode hstop.fault hpc hstop.decode_nextWord]
    exact exec_of_stoppedAt hstop
  · rw [step_of_nil hs, State.dequeue_of_nil hs, cycle_of_decode hf hpc hi]
    exact exec_ldVxK_of_none_pressed x hq hnone

/-! ## `SetKeys` and the reads -/

theorem perform_setKeys {s : State} (hf : s.fault = none) (k : Keys) :
    perform (.setKeys k) s = .next ((s.setKey k).setReply .done) := unlessFaulted_of_none _ hf

/-- Settles O8: the snapshot is replaced as a whole; with a fault it is refused as every operation but `Reset` is. -/
theorem setKeysReplacesTheSnapshot : Obligations.SetKeysReplacesTheSnapshot := by
  intro k s
  refine ⟨fun hf => ⟨_, perform_setKeys hf k, fun _ => rfl, rfl, ?_⟩, fun f hf => perform_of_faulted hf (by simp)⟩
  simp [frameExcept_iff]

/-! Everything each read answers when it completes (R65). -/

theorem perform_readFramebuffer_eq_next {s t : State} :
    perform .readFramebuffer s = .next t ↔ s.fault = none ∧ t = s.setReply (.pixels s.fb) := by
  rw [perform, readFramebuffer, unlessFaulted_eq_next]; simp [eq_comm]

theorem perform_readSoundTimer_eq_next {s t : State} :
    perform .readSoundTimer s = .next t ↔ s.fault = none ∧ t = s.setReply (.timer s.st) := by
  rw [perform, readSoundTimer, unlessFaulted_eq_next]; simp [eq_comm]

theorem perform_readDelayTimer_eq_next {s t : State} :
    perform .readDelayTimer s = .next t ↔ s.fault = none ∧ t = s.setReply (.timer s.dt) := by
  rw [perform, readDelayTimer, unlessFaulted_eq_next]; simp [eq_comm]

/-- Setting the reply alone changes no piece of the state. -/
theorem frameExcept_nil_setReply (s : State) (q : Reply) : FrameExcept [] s (s.setReply q) := by
  simp [frameExcept_iff]

/-- Settles O9: each read sets the reply to its output, a function of `fb`, `ST` or `DT`. -/
theorem readsShowOnlyTheOutputs : Obligations.ReadsShowOnlyTheOutputs := by
  refine ⟨fun s hf => ⟨?_, ?_, ?_⟩, fun op hop s s' t t' hfb hst hdt h h' => ?_⟩
  · exact ⟨_, perform_readFramebuffer_eq_next.mpr ⟨hf, rfl⟩, rfl, frameExcept_nil_setReply s _⟩
  · exact ⟨_, perform_readSoundTimer_eq_next.mpr ⟨hf, rfl⟩, rfl, frameExcept_nil_setReply s _⟩
  · exact ⟨_, perform_readDelayTimer_eq_next.mpr ⟨hf, rfl⟩, rfl, frameExcept_nil_setReply s _⟩
  · obtain rfl | rfl | rfl : op = .readFramebuffer ∨ op = .readSoundTimer ∨ op = .readDelayTimer := by simpa using hop
    · obtain ⟨_, rfl⟩ := perform_readFramebuffer_eq_next.mp h
      obtain ⟨_, rfl⟩ := perform_readFramebuffer_eq_next.mp h'
      rw [State.setReply_reply, State.setReply_reply, hfb]
    · obtain ⟨_, rfl⟩ := perform_readSoundTimer_eq_next.mp h
      obtain ⟨_, rfl⟩ := perform_readSoundTimer_eq_next.mp h'
      rw [State.setReply_reply, State.setReply_reply, hst]
    · obtain ⟨_, rfl⟩ := perform_readDelayTimer_eq_next.mp h
      obtain ⟨_, rfl⟩ := perform_readDelayTimer_eq_next.mp h'
      rw [State.setReply_reply, State.setReply_reply, hdt]

/-! ## What each operation leaves unchanged -/

theorem Part.Same.trans {p : Part} {s t u : State} (hst : p.Same s t) (htu : p.Same t u) : p.Same s u := by
  cases p with
  | v | mem => exact fun a => (htu a).trans (hst a)
  | _ => exact Eq.trans htu hst

theorem FrameExcept.trans {ps : List Part} {s t u : State} (hst : FrameExcept ps s t) (htu : FrameExcept ps t u) :
    FrameExcept ps s u := fun p hp => (hst p hp).trans (htu p hp)

/-- Every instruction's parts are parts of a cycle (R60). -/
theorem partsWritten_subset_cycle (i : Instr) : partsWritten i ⊆ operationWrites .cycle := by
  cases i <;> simp [partsWritten, operationWrites]

/-- A cycle's frame: the fetch writes `pc`, the instruction its own parts. -/
theorem cycle_frame {s t : State} (h : cycle s = .next t) : FrameExcept (operationWrites .cycle) s t := by
  obtain ⟨_, _, i, _, hexec⟩ := cycle_eq_next h
  have hfetch : FrameExcept (operationWrites .cycle) s (s.setPc (s.pc + 2)) := by
    simp [frameExcept_iff, operationWrites]
  exact hfetch.trans ((instructionsWriteOnlyTheirParts i _ t hexec).mono (partsWritten_subset_cycle i))

/-- Settles O11: operation by operation; a `Reset` may write all but the model's own schedule and draw counter. -/
theorem operationsChangeOnlyTheirOwn : Obligations.OperationsChangeOnlyTheirOwn := by
  intro op s t h
  cases op with
  | reset config rom =>
    obtain ⟨_, _, rfl⟩ := resetWith_eq_next.mp h
    simp [frameExcept_iff, operationWrites]
  | cycle => exact cycle_frame h
  | tickDelay | tickSound | tickTimers | setKeys k =>
    obtain ⟨_, h⟩ := unlessFaulted_eq_next.mp h
    rw [done_eq_next.mp h]
    simp [frameExcept_iff, operationWrites]
  | readFramebuffer | readSoundTimer | readDelayTimer =>
    obtain ⟨_, h⟩ := unlessFaulted_eq_next.mp h
    cases h
    exact frameExcept_nil_setReply s _

/-! ## After a fault -/

/-- Settles O24: the refusal is `unlessFaulted`'s, and `Reset`'s state has no fault. -/
theorem faultedInstanceOnlyResets : Obligations.FaultedInstanceOnlyResets := by
  refine fun s f hf => ⟨fun op hreset => perform_of_faulted hf hreset, fun config rom t h => ?_⟩
  obtain ⟨_, _, rfl⟩ := resetWith_eq_next.mp h
  rfl

end Sys2Proof.Machine
end

section
/-! PROOFS. The control-flow instructions: their words, the stack under a push and a pop, and the skips. -/

namespace Sys2Proof.Machine

/-! ## Words, through the round trip -/

/-- A well-formed instruction decodes from its word, however the word is written. -/
theorem decode_of_encode_eq {i : Instr} {op : Word} (hwf : i.wellFormed = true) (hop : encode i = op) :
    decode op = .ok i := hop ▸ decodeOfEncode i hwf

/-- `5XYn` and `9XYn` with `n` not 0 are no instruction (R53). -/
theorem decode_wordXYN_skip_ne_ok {g n : Nat} (hg : g = 0x5 ∨ g = 0x9) (hpos : 0 < n) (hlt : n < 16) (x y : Reg)
    (i : Instr) : decode (wordXYN g x y n) ≠ .ok i := by
  have hword : (wordXYN g x y n).toNat = 0x1000 * g + 0x100 * x.val + 0x10 * y.val + n :=
    toNat_wordXYN x y (by omega) hlt
  refine (decode_unmatched_iff _).mpr ?_ i
  rw [hword]
  omega

/-! ## `SYS` and the jumps -/

/-- Settles O29: the fault's word is the instruction's address, and outside `CLS` and `RET` that word is its encoding. -/
theorem sysAlwaysInvalid : Obligations.SysAlwaysInvalid := by
  refine fun nnn s => ⟨exec_of_faultOf_some ?_, fun hcls hret => ?_⟩
  · rw [faultOf, wordA, Nat.mul_zero, Nat.zero_add]
  · exact decode_of_encode_eq (by simp [Instr.wellFormed, hcls, hret]) (encodeA_eq_wordA 0x0#4 nnn)

/-- Settles O31: the target is the address, zero-extended. -/
theorem jpSetsThePc : Obligations.JpSetsThePc := fun nnn s =>
  have hexec := exec_of_faultOf_none (i := .jp nnn) (s := s) rfl
  ⟨decode_wordA_jp nnn, _, hexec, addressOperand_toNat nnn, instructionsWriteOnlyTheirParts _ _ _ hexec, rfl⟩

/-- The target of `JP V0` fits in `pc`, so its sum is exact (R78). -/
theorem jpV0_target_toNat (b : Byte) (nnn : BitVec 12) :
    (offsetOperand b + addressOperand nnn).toNat = b.toNat + nnn.toNat := by
  rw [BitVec.toNat_add, offsetOperand_toNat, addressOperand_toNat]
  omega

/-- Settles O35: the sum of a byte and a 12-bit address does not reach 2^16. -/
theorem jpV0AddsTheOffset : Obligations.JpV0AddsTheOffset := fun nnn s =>
  have hexec := exec_of_faultOf_none (i := .jpV0 nnn) (s := s) rfl
  ⟨decode_of_encode_eq rfl (encodeA_eq_wordA 0xB#4 nnn), _, hexec, jpV0_target_toNat (s.getV 0) nnn,
    instructionsWriteOnlyTheirParts _ _ _ hexec, rfl⟩

/-! ## The stack: `RET` and `CALL` -/

theorem State.top_eq_getElem {s : State} {k : Fin 16} (hk : s.sp.val = k.val + 1) (h : 0 < s.sp.val) :
    s.top h = s.stack[k] := by
  simp [State.top, hk]

/-- An entry of the stack after a push: the value pushed, every other entry as before. -/
theorem State.getElem_stack_push (s : State) (a : Word) (h : s.sp.val < 16) (j : Fin 16) :
    (s.push a h).stack[j] = if s.sp.val = j.val then a else s.stack[j] := by
  simp [Vector.getElem_set]

/-- `RET` with an entry on the stack (R71). -/
theorem exec_ret_of_pos {s : State} (h : 0 < s.sp.val) :
    exec .ret s = .next ((s.drop.setPc (s.top h)).setReply (.ok false)) := dif_pos h

/-- `CALL` with room on the stack (R73). -/
theorem exec_call_of_lt {s : State} (nnn : BitVec 12) (h : s.sp.val < 16) :
    exec (.call nnn) s = .next (((s.push s.pc h).setPc (addressOperand nnn)).setReply (.ok false)) := dif_pos h

/-- Settles O30: the entry popped is the one below `SP`. -/
theorem retPopsThePc : Obligations.RetPopsThePc := by
  refine ⟨decode_of_encode_eq rfl rfl, fun s => ⟨fun h => exec_of_faultOf_some (if_pos h), fun k hk => ?_⟩⟩
  have hpos : 0 < s.sp.val := by omega
  have hret := exec_ret_of_pos hpos
  refine ⟨_, hret, ?_, State.top_eq_getElem hk hpos, instructionsWriteOnlyTheirParts _ _ _ hret, rfl⟩
  simp [hk]

/-- `CALL` at `SP = k` below 16 (R73): `pc` is pushed at `k` and nothing else of the stack changes. -/
theorem exec_call_pushes (nnn : BitVec 12) {s : State} {k : Fin 16} (hk : s.sp.val = k.val) :
    ∃ t, exec (.call nnn) s = .next t ∧ t.stack[k] = s.pc ∧ (∀ j : Fin 16, j ≠ k → t.stack[j] = s.stack[j]) ∧
      t.sp.val = k.val + 1 ∧ t.pc.toNat = nnn.toNat ∧ FrameExcept [.stack, .sp, .pc] s t ∧ t.reply = .ok false := by
  have hlt : s.sp.val < 16 := hk ▸ k.isLt
  have hcall := exec_call_of_lt nnn hlt
  refine ⟨_, hcall, ?_, fun j hj => ?_, ?_, addressOperand_toNat nnn, instructionsWriteOnlyTheirParts _ _ _ hcall, rfl⟩
  · exact (State.getElem_stack_push s s.pc hlt k).trans (if_pos hk)
  · have hne : s.sp.val ≠ j.val := fun he => hj (Fin.ext (he.symm.trans hk))
    exact (State.getElem_stack_push s s.pc hlt j).trans (if_neg hne)
  · simp [hk]

/-- A frame narrows to `qs` when the pieces it leaves free outside `qs` are the same after all. -/
theorem FrameExcept.of_same {ps qs : List Part} {s t : State} (h : FrameExcept ps s t)
    (hsame : ∀ p ∈ ps, p ∉ qs → p.Same s t) : FrameExcept qs s t :=
  fun p hp => if hm : p ∈ ps then hsame p hm hp else h p hm

/-- A `RET` that finds `s`'s `pc` just above `s`'s stack puts back all of `s` but the stack entries: both frames together
leave only `SP` and `pc` free, and these are as they were. -/
theorem exec_ret_undoes_call {s t : State} {k : Fin 16} (hk : s.sp.val = k.val)
    (hframe : FrameExcept [.stack, .sp, .pc] s t) (htop : t.stack[k] = s.pc) (hsp : t.sp.val = k.val + 1) :
    ∃ u, exec .ret t = .next u ∧ u.pc = s.pc ∧ u.sp = s.sp ∧ FrameExcept [.stack] s u := by
  obtain ⟨u, hret, husp, hupc, huframe, _⟩ := (retPopsThePc.2 t).2 k hsp
  have hpc' : u.pc = s.pc := hupc.trans htop
  have hsp' : u.sp = s.sp := Fin.ext (husp.trans hk.symm)
  have hboth : FrameExcept [.stack, .sp, .pc] s u := hframe.trans (huframe.mono (by simp))
  exact ⟨u, hret, hpc', hsp', hboth.of_same (by simp [Part.Same, hpc', hsp'])⟩

/-- Settles O32: the push of `pc` at `SP`, and the `RET` that finds it there. -/
theorem callPushesThePc : Obligations.CallPushesThePc := by
  refine fun nnn s => ⟨decode_of_encode_eq rfl (encodeA_eq_wordA 0x2#4 nnn), fun h => exec_of_faultOf_some (if_pos h),
    fun k hk => exec_call_pushes nnn hk, fun hlt => ?_⟩
  have hk : s.sp.val = (⟨s.sp.val, hlt⟩ : Fin 16).val := rfl
  obtain ⟨t, hcall, htop, _, hsp, _, hframe, _⟩ := exec_call_pushes nnn hk
  obtain ⟨u, hret⟩ := exec_ret_undoes_call hk hframe htop hsp
  exact ⟨t, u, hcall, hret⟩

/-! ## The skips -/

/-- An instruction that only skips under a condition: it completes, with `pc` 2 further exactly under the condition. -/
theorem exec_of_skipIf {i : Instr} {s : State} {c : Bool} {skips stays : Prop}
    (hexec : exec i s = finish false (s.skipIf c)) (hskips : skips → c = true) (hstays : stays → c = false) :
    ∃ t, exec i s = .next t ∧ (skips → t.pc = s.pc + 2) ∧ (stays → t.pc = s.pc) ∧ FrameExcept [.pc] s t ∧
      t.reply = .ok false := by
  refine ⟨_, hexec, fun h => ?_, fun h => ?_, ?_, rfl⟩
  · simp [hskips h]
  · simp [hstays h]
  · simp [frameExcept_iff]

/-- Settles O33: `SE` skips on equality, `SNE` on difference. -/
theorem skipOnImmediate : Obligations.SkipOnImmediate := fun x nn _ =>
  ⟨decode_of_encode_eq rfl (encodeXI_eq_wordXI 0x3#4 x nn), decode_of_encode_eq rfl (encodeXI_eq_wordXI 0x4#4 x nn),
    exec_of_skipIf rfl beq_iff_eq.mpr beq_eq_false_iff_ne.mpr,
    exec_of_skipIf rfl bne_iff_ne.mpr bne_eq_false_iff_eq.mpr⟩

/-- Settles O34: `SE` skips on equality, `SNE` on difference; a trailing nibble other than 0 is in R53's table. -/
theorem skipOnRegisters : Obligations.SkipOnRegisters := fun x y _ =>
  ⟨decode_of_encode_eq rfl (encodeXYN_eq_wordXYN 0x5#4 x y 0x0#4),
    decode_of_encode_eq rfl (encodeXYN_eq_wordXYN 0x9#4 x y 0x0#4),
    fun _ hpos hlt i => ⟨decode_wordXYN_skip_ne_ok (.inl rfl) hpos hlt x y i,
      decode_wordXYN_skip_ne_ok (.inr rfl) hpos hlt x y i⟩,
    exec_of_skipIf rfl beq_iff_eq.mpr beq_eq_false_iff_ne.mpr,
    exec_of_skipIf rfl bne_iff_ne.mpr bne_eq_false_iff_eq.mpr⟩

end Sys2Proof.Machine
end

section
/-! PROOFS. The load, arithmetic, logic, shift and random instructions: one rule for an instruction that writes a register,
one for an instruction that writes a result and then a flag, and each result and flag in numbers. -/

namespace Sys2Proof.Machine

/-! ## Results and flags in numbers -/

theorem carry_eq_true {a b : Byte} (h : a.toNat + b.toNat > 255) : carry a b = true := decide_eq_true h

theorem carry_eq_false {a b : Byte} (h : a.toNat + b.toNat ≤ 255) : carry a b = false :=
  decide_eq_false (Nat.not_lt.mpr h)

theorem notBorrow_eq_true {a b : Byte} (h : a.toNat ≥ b.toNat) : notBorrow a b = true := decide_eq_true h

theorem notBorrow_eq_false {a b : Byte} (h : a.toNat < b.toNat) : notBorrow a b = false :=
  decide_eq_false (Nat.not_le.mpr h)

/-- A difference modulo 256, without truncation (R87, R89). -/
theorem toNat_sub_byte (a b : Byte) : (a - b).toNat = (a.toNat + 256 - b.toNat) % 256 := by
  rw [BitVec.toNat_sub]
  omega

/-- A shift right halves (R88). -/
theorem toNat_shiftRight_one (b : Byte) : (b >>> 1).toNat = b.toNat / 2 := by
  rw [BitVec.toNat_ushiftRight, Nat.shiftRight_one]

/-- A shift left doubles modulo 256 (R90). -/
theorem toNat_shiftLeft_one (b : Byte) : (b <<< 1).toNat = 2 * b.toNat % 256 := by
  rw [BitVec.toNat_shiftLeft, Nat.shiftLeft_eq, Nat.mul_comm]

/-- The bit a shift right drops is the remainder (R88). -/
theorem lowBit_toNat (b : Byte) : (lowBit b).toNat = b.toNat % 2 := by
  rw [lowBit, BitVec.getLsbD, Nat.toNat_testBit, Nat.pow_zero, Nat.div_one]

/-- The bit a shift left drops is the top one (R90). -/
theorem highBit_toNat (b : Byte) : (highBit b).toNat = b.toNat / 128 := by
  rw [highBit, BitVec.getLsbD, Nat.toNat_testBit]
  omega

/-- The byte the shifts read, by its register. -/
theorem State.shiftSource_eq_getV (s : State) (x y : Reg) : s.shiftSource x y = s.getV (shiftedRegister s x y) := by
  unfold State.shiftSource shiftedRegister
  split <;> rfl

/-! ## One register written -/

/-- A register written twice holds the second value, and nothing is left of the first. -/
theorem State.setV_setV (s : State) (x : Reg) (a b : Byte) : (s.setV x a).setV x b = s.setV x b := by
  simp [State.setV]

/-- An instruction that only writes `b` to `V[x]`. -/
theorem exec_of_setV {i : Instr} {s : State} {x : Reg} {b : Byte} (hexec : exec i s = finish false (s.setV x b)) :
    ∃ t, exec i s = .next t ∧ t.getV x = b ∧ (∀ r, r ≠ x → t.getV r = s.getV r) ∧ FrameExcept [.v] s t ∧
      t.reply = .ok false :=
  ⟨_, hexec, State.getV_setV_self s x b, fun _ hr => State.getV_setV_ne s hr b, by simp [frameExcept_iff], rfl⟩

/-- An instruction that only writes `b` to `V[x]`, by the bits of `b`. -/
theorem exec_of_setV_bits {i : Instr} {s : State} {x : Reg} {b : Byte} {bit : Nat → Bool}
    (hexec : exec i s = finish false (s.setV x b)) (hbits : ∀ k, b.getLsbD k = bit k) :
    ∃ t, exec i s = .next t ∧ (∀ k < 8, (t.getV x).getLsbD k = bit k) ∧ (∀ r, r ≠ x → t.getV r = s.getV r) ∧
      FrameExcept [.v] s t ∧ t.reply = .ok false := by
  obtain ⟨t, ht, hx, hrest⟩ := exec_of_setV hexec
  exact ⟨t, ht, fun k _ => hx ▸ hbits k, hrest⟩

/-- Settles O36: the immediate is the value written. -/
theorem loadImmediate : Obligations.LoadImmediate := fun x nn _ =>
  ⟨decode_of_encode_eq rfl (encodeXI_eq_wordXI 0x6#4 x nn), exec_of_setV rfl⟩

/-- Settles O38: the value written is the one read from `V[y]`. -/
theorem copyRegister : Obligations.CopyRegister := fun x y _ =>
  ⟨decode_of_encode_eq rfl (encodeXYN_eq_wordXYN 0x8#4 x y 0x0#4), exec_of_setV rfl⟩

/-- Settles O39: the operations on bytes, bit by bit. -/
theorem logicIsBitwise : Obligations.LogicIsBitwise := fun x y _ =>
  ⟨decode_of_encode_eq rfl (encodeXYN_eq_wordXYN 0x8#4 x y 0x1#4),
    decode_of_encode_eq rfl (encodeXYN_eq_wordXYN 0x8#4 x y 0x2#4),
    decode_of_encode_eq rfl (encodeXYN_eq_wordXYN 0x8#4 x y 0x3#4),
    exec_of_setV_bits rfl fun _ => BitVec.getLsbD_or,
    exec_of_setV_bits rfl fun _ => BitVec.getLsbD_and,
    exec_of_setV_bits rfl fun _ => BitVec.getLsbD_xor⟩

/-- Adding `nn` twice is adding `2 nn mod 256` once (R81). -/
theorem add_add_eq_add_double (a nn : Byte) : a + nn + nn = a + BitVec.ofNat 8 (2 * nn.toNat % 256) := by
  apply BitVec.eq_of_toNat_eq
  simp only [BitVec.toNat_add, BitVec.toNat_ofNat]
  omega

/-- `ADD Vx, NN` twice is once with `2 nn mod 256` (R81): the second write of `V[x]` replaces the first. -/
theorem exec_addVxNn_twice {x : Reg} {nn : Byte} {s t : State} (h : exec (.addVxNn x nn) s = .next t) :
    exec (.addVxNn x nn) t = exec (.addVxNn x (BitVec.ofNat 8 (2 * nn.toNat % 256))) s := by
  obtain ⟨_, rfl⟩ := exec_eq_next.mp h
  calc exec (.addVxNn x nn) ((s.setV x (s.getV x + nn)).setReply (.ok false))
    _ = finish false ((s.setV x (s.getV x + nn)).setV x ((s.setV x (s.getV x + nn)).getV x + nn)) := rfl
    _ = finish false (s.setV x (s.getV x + BitVec.ofNat 8 (2 * nn.toNat % 256))) := by
      rw [State.setV_setV, State.getV_setV_self, add_add_eq_add_double]

/-- Settles O37: the sum modulo 256, and two sums as one. -/
theorem addImmediateWraps : Obligations.AddImmediateWraps := by
  refine fun x nn s => ⟨decode_of_encode_eq rfl (encodeXI_eq_wordXI 0x7#4 x nn), ?_, fun t => exec_addVxNn_twice⟩
  obtain ⟨t, ht, hx, hrest⟩ := exec_of_setV (i := .addVxNn x nn) (s := s) rfl
  exact ⟨t, ht, hx ▸ BitVec.toNat_add _ _, hrest⟩

/-- Settles O43: the byte drawn is masked, and the draw is counted before the register is written. -/
theorem randomIsMasked : Obligations.RandomIsMasked := by
  intro x nn s
  have hexec := exec_of_faultOf_none (i := .rnd x nn) (s := s) rfl
  have hx : (effect s (.rnd x nn)).getV x = Config.randByte s.draws &&& nn := State.getV_setV_self s.drawn x _
  refine ⟨decode_of_encode_eq rfl (encodeXI_eq_wordXI 0xC#4 x nn), _, hexec, hx, ?_, rfl,
    fun r hr => State.getV_setV_ne s.drawn hr _, instructionsWriteOnlyTheirParts _ _ _ hexec, rfl⟩
  rw [State.setReply_getV, hx, BitVec.and_assoc, BitVec.and_not_self]
  exact BitVec.and_zero

/-! ## A result, then a flag -/

/-- An instruction that writes `b` to `V[x]` and then the flag `f`, which wins for `x = 15` (R92, D18). -/
theorem exec_of_setV_setFlag {i : Instr} {s : State} {x : Reg} {b : Byte} {f : Bool}
    (hexec : exec i s = finish false ((s.setV x b).setFlag f)) :
    ∃ t, exec i s = .next t ∧ (x ≠ VF → t.getV x = b) ∧ t.getV VF = (if f then 1 else 0) ∧
      (∀ r, r ≠ x → r ≠ VF → t.getV r = s.getV r) ∧ FrameExcept [.v] s t ∧ t.reply = .ok false := by
  have hget (r : Reg) := State.getV_setV_setFlag s x r b f
  refine ⟨_, hexec, fun hx => ?_, ?_, fun r hx hvf => ?_, by simp [frameExcept_iff], rfl⟩
  · simp [hget, hx]
  · simp [hget]
  · simp [hget, hx, hvf]

/-- The same with the result as the number `n`, and the flag by the conditions that set and clear it. -/
theorem exec_of_setV_setFlag_cond {i : Instr} {s : State} {x : Reg} {b : Byte} {f : Bool} {n : Nat} {sets clears : Prop}
    (hexec : exec i s = finish false ((s.setV x b).setFlag f)) (hb : b.toNat = n) (hsets : sets → f = true)
    (hclears : clears → f = false) :
    ∃ t, exec i s = .next t ∧ (x ≠ VF → (t.getV x).toNat = n) ∧ (sets → t.getV VF = 1) ∧ (clears → t.getV VF = 0) ∧
      (∀ r, r ≠ x → r ≠ VF → t.getV r = s.getV r) ∧ FrameExcept [.v] s t ∧ t.reply = .ok false := by
  obtain ⟨t, ht, hx, hvf, hrest⟩ := exec_of_setV_setFlag hexec
  refine ⟨t, ht, fun hne => hx hne ▸ hb, fun h => ?_, fun h => ?_, hrest⟩
  · simp [hvf, hsets h]
  · simp [hvf, hclears h]

/-- The same with the result as the number `n` and the flag as the bit `m`. -/
theorem exec_of_setV_setFlag_bit {i : Instr} {s : State} {x : Reg} {b : Byte} {f : Bool} {n m : Nat}
    (hexec : exec i s = finish false ((s.setV x b).setFlag f)) (hb : b.toNat = n) (hf : f.toNat = m) :
    ∃ t, exec i s = .next t ∧ (x ≠ VF → (t.getV x).toNat = n) ∧ (t.getV VF).toNat = m ∧
      (∀ r, r ≠ x → r ≠ VF → t.getV r = s.getV r) ∧ FrameExcept [.v] s t ∧ t.reply = .ok false := by
  obtain ⟨t, ht, hx, hvf, hrest⟩ := exec_of_setV_setFlag hexec
  refine ⟨t, ht, fun hne => hx hne ▸ hb, ?_, hrest⟩
  rw [hvf, ← hf]
  cases f <;> rfl

/-- Settles O40: the sum modulo 256 and the carry out of it. -/
theorem addSetsCarry : Obligations.AddSetsCarry := fun x y _ =>
  ⟨decode_of_encode_eq rfl (encodeXYN_eq_wordXYN 0x8#4 x y 0x4#4),
    exec_of_setV_setFlag_cond rfl (BitVec.toNat_add _ _) carry_eq_true carry_eq_false⟩

/-- Settles O41: the two differences modulo 256, each with the not-borrow of its own operands. -/
theorem subtractSetsNotBorrow : Obligations.SubtractSetsNotBorrow := fun x y _ =>
  ⟨decode_of_encode_eq rfl (encodeXYN_eq_wordXYN 0x8#4 x y 0x5#4),
    decode_of_encode_eq rfl (encodeXYN_eq_wordXYN 0x8#4 x y 0x7#4),
    exec_of_setV_setFlag_cond rfl (toNat_sub_byte _ _) notBorrow_eq_true notBorrow_eq_false,
    exec_of_setV_setFlag_cond rfl (toNat_sub_byte _ _) notBorrow_eq_true notBorrow_eq_false⟩

/-- Settles O42: halving and doubling of the source, and the bit each drops. -/
theorem shiftsMoveOneBit : Obligations.ShiftsMoveOneBit := by
  intro x y s
  rw [← State.shiftSource_eq_getV]
  exact ⟨decode_of_encode_eq rfl (encodeXYN_eq_wordXYN 0x8#4 x y 0x6#4),
    decode_of_encode_eq rfl (encodeXYN_eq_wordXYN 0x8#4 x y 0xE#4),
    exec_of_setV_setFlag_bit rfl (toNat_shiftRight_one _) (lowBit_toNat _),
    exec_of_setV_setFlag_bit rfl (toNat_shiftLeft_one _) (highBit_toNat _)⟩

end Sys2Proof.Machine
end

section
/-! PROOFS. The index-register and memory instructions: one rule for an instruction that sets `I`, one for an
instruction that stores bytes from `I`, and a dump that is loaded back. -/

namespace Sys2Proof.Machine

/-! ## The index register -/

/-- An instruction that only writes `w` to `I`. -/
theorem exec_of_setI {i : Instr} {s : State} {w : Word} (hexec : exec i s = finish false (s.setI w)) :
    ∃ t, exec i s = .next t ∧ t.i = w ∧ FrameExcept [.i] s t ∧ t.reply = .ok false :=
  ⟨_, hexec, rfl, by simp [frameExcept_iff], rfl⟩

/-- Settles O44: the address, zero-extended, is what `I` is set to. -/
theorem loadIndex : Obligations.LoadIndex := by
  refine fun nnn s => ⟨decode_of_encode_eq rfl (encodeA_eq_wordA 0xA#4 nnn), ?_⟩
  obtain ⟨t, ht, hi, hrest⟩ := exec_of_setI (i := .ldINnn nnn) (s := s) rfl
  exact ⟨t, ht, hi ▸ addressOperand_toNat nnn, hrest⟩

/-- Settles O46: the glyph's address is exact for an allowed font base, and the font ends below the program origin. -/
theorem fontAddress : Obligations.FontAddress := by
  refine fun x s => ⟨decode_of_encode_eq rfl (encodeXI_eq_wordXI 0xF#4 x 0x29#8), fun hvalid => ?_⟩
  obtain ⟨t, ht, hi, hrest⟩ := exec_of_setI (i := .ldFVx x) (s := s) rfl
  have haddr : t.i.toNat = s.config.fontBase + 5 * ((s.getV x).toNat % 16) := by
    rw [hi, State.glyphAddress_toNat hvalid, State.lowNibble_val]
  have hfont : s.config.fontBase + 80 ≤ 0x200 := hvalid
  exact ⟨t, ht, haddr, by omega, hrest⟩

/-- A register after `ADD I, Vx`: only `VF`, and only under the quirk, is written (R96). -/
theorem getV_of_addIVx {x : Reg} {s t : State} (h : exec (.addIVx x) s = .next t) (r : Reg) :
    t.getV r = if s.config.addISetsVf = true ∧ r = VF then (if indexOverflow s.i (s.getV x) then 1 else 0)
      else s.getV r := by
  obtain ⟨_, rfl⟩ := exec_eq_next.mp h
  exact State.getV_setIndexFlag _ r _

/-- `I` after `ADD I, Vx`: the sum of 16 bits (R96). -/
theorem toNat_i_of_addIVx {x : Reg} {s t : State} (h : exec (.addIVx x) s = .next t) :
    t.i.toNat = (s.i.toNat + (s.getV x).toNat) % 65536 := by
  obtain ⟨_, rfl⟩ := exec_eq_next.mp h
  simp [effect, offsetOperand_toNat]

theorem indexOverflow_eq_true {i : Word} {a : Byte} (h : i.toNat + a.toNat > 0x0FFF) : indexOverflow i a = true :=
  decide_eq_true h

theorem indexOverflow_eq_false {i : Word} {a : Byte} (h : i.toNat + a.toNat ≤ 0x0FFF) : indexOverflow i a = false :=
  decide_eq_false (Nat.not_lt.mpr h)

/-- Settles O45: the sum modulo 65536, and the flag from the old `I` and `V[x]`. -/
theorem addToIndex : Obligations.AddToIndex := by
  intro x s
  have hexec := exec_of_faultOf_none (i := .addIVx x) (s := s) rfl
  have hget := getV_of_addIVx hexec
  refine ⟨decode_of_encode_eq rfl (encodeXI_eq_wordXI 0xF#4 x 0x1E#8), _, hexec, toNat_i_of_addIVx hexec,
    fun hoff r => ?_, fun hon hsum => ?_, fun hon hsum => ?_, fun r hr => ?_,
    instructionsWriteOnlyTheirParts _ _ _ hexec, rfl⟩
  · simp [hget, hoff]
  · simp [hget, hon, indexOverflow_eq_true hsum]
  · simp [hget, hon, indexOverflow_eq_false hsum]
  · simp [hget, hr]

/-! ## Bytes stored from `I` -/

/-- A byte within a stored run. -/
theorem State.byteAt_putBytes_add (s : State) (a : Nat) {bs : List Byte} {k : Nat} (hk : k < bs.length) :
    (s.putBytes a bs).byteAt (a + k) = bs[k] := by
  simp [State.byteAt_putBytes, hk]

/-- A byte below or above a stored run. -/
theorem State.byteAt_putBytes_of_outside (s : State) {a c : Nat} {bs : List Byte} (hc : c < a ∨ a + bs.length ≤ c) :
    (s.putBytes a bs).byteAt c = s.byteAt c := by
  rw [State.byteAt_putBytes]
  split
  next hle => rw [List.getElem?_eq_none (by omega)]; rfl
  · rfl

/-- An instruction that only stores `bs` from `I` upward. -/
theorem exec_of_putBytes {i : Instr} {s : State} {bs : List Byte}
    (hexec : exec i s = finish false (s.putBytes s.i.toNat bs)) :
    ∃ t, exec i s = .next t ∧ (∀ k (hk : k < bs.length), t.byteAt (s.i.toNat + k) = bs[k]) ∧
      (∀ a, a < s.i.toNat ∨ s.i.toNat + bs.length ≤ a → t.byteAt a = s.byteAt a) ∧ FrameExcept [.mem] s t ∧
      t.reply = .ok false :=
  ⟨_, hexec, fun _ hk => State.byteAt_putBytes_add s s.i.toNat hk, fun _ ha => State.byteAt_putBytes_of_outside s ha,
    by simp [frameExcept_iff], rfl⟩

/-- The three digits of a byte in numbers; each fits in a byte (R98). -/
theorem decimalDigits_toNat (b : Byte) :
    (decimalDigits b)[0].toNat = b.toNat / 100 ∧ (decimalDigits b)[1].toNat = b.toNat / 10 % 10 ∧
      (decimalDigits b)[2].toNat = b.toNat % 10 := by
  have hbyte := b.isLt
  exact ⟨Nat.mod_eq_of_lt (by omega), Nat.mod_eq_of_lt (by omega), Nat.mod_eq_of_lt (by omega)⟩

/-- Settles O47: the bytes stored are the three digits. -/
theorem storeDecimalDigits : Obligations.StoreDecimalDigits := by
  refine fun x s => ⟨decode_of_encode_eq rfl (encodeXI_eq_wordXI 0xF#4 x 0x33#8),
    fun hgt => exec_of_faultOf_some (if_pos hgt), fun hle => ?_⟩
  have hexec := exec_of_faultOf_none (i := .ldBVx x) (s := s) (if_neg (Nat.not_lt.mpr hle))
  obtain ⟨t, ht, hdigit, hother, hrest⟩ := exec_of_putBytes (bs := decimalDigits (s.getV x)) hexec
  obtain ⟨hundreds, tens, ones⟩ := decimalDigits_toNat (s.getV x)
  exact ⟨t, ht, (congrArg BitVec.toNat (hdigit 0 (by simp))).trans hundreds,
    (congrArg BitVec.toNat (hdigit 1 (by simp))).trans tens, (congrArg BitVec.toNat (hdigit 2 (by simp))).trans ones,
    fun a ha => hother a (ha.imp_right Nat.succ_le_of_lt), hrest⟩

/-- A register among those stored, by its place in the list. -/
theorem State.regsUpTo_getElem (s : State) {x r : Reg} (hr : r ≤ x) (h : r.val < (s.regsUpTo x).length) :
    (s.regsUpTo x)[r.val] = s.getV r :=
  Option.some_inj.mp ((List.getElem?_eq_getElem h).symm.trans ((State.regsUpTo_getElem? s x r.val).trans (dif_pos hr)))

/-- Settles O48: the bytes stored are the registers up to `V[x]`. -/
theorem dumpRegisters : Obligations.DumpRegisters := by
  refine fun x s => ⟨decode_of_encode_eq rfl (encodeXI_eq_wordXI 0xF#4 x 0x55#8),
    fun hgt => exec_of_faultOf_some (if_pos hgt), fun hle => ?_⟩
  have hexec := exec_of_faultOf_none (i := .ldMiVx x) (s := s) (if_neg (Nat.not_lt.mpr hle))
  obtain ⟨t, ht, hstored, hother, hrest⟩ := exec_of_putBytes (bs := s.regsUpTo x) hexec
  have hlen := s.regsUpTo_length x
  refine ⟨t, ht, fun r hr => ?_, fun a ha => hother a (by omega), hrest⟩
  have hlt : r.val < (s.regsUpTo x).length := hlen ▸ Nat.lt_succ_of_le hr
  exact (hstored r.val hlt).trans (s.regsUpTo_getElem hr hlt)

/-! ## Registers loaded from `I` -/

/-- A register after a completed `LD Vx, [I]` (R100). -/
theorem getV_of_ldVxMi {x : Reg} {s t : State} (h : exec (.ldVxMi x) s = .next t) (r : Reg) :
    t.getV r = if r ≤ x then s.byteAt (s.i.toNat + r.val) else s.getV r := by
  obtain ⟨_, rfl⟩ := exec_eq_next.mp h
  exact State.getV_loadRegs s x r

/-- A load from where `d` dumped its registers gives them back: the bytes and `I` are still those the dump left. -/
theorem getV_of_ldMiVx_ldVxMi {x r : Reg} {d u s t : State} (hdump : exec (.ldMiVx x) d = .next u)
    (hframe : FrameExcept [.v, .pc] u s) (hload : exec (.ldVxMi x) s = .next t) (hr : r ≤ x) : t.getV r = d.getV r := by
  have hi : s.i = d.i := calc
    s.i = u.i := hframe .i (by simp)
    _ = d.i := instructionsWriteOnlyTheirParts _ _ _ hdump .i (by simp [partsWritten])
  calc t.getV r
    _ = s.byteAt (s.i.toNat + r.val) := (getV_of_ldVxMi hload r).trans (if_pos hr)
    _ = u.byteAt (d.i.toNat + r.val) := hi ▸ hframe .mem (by simp) _
    _ = d.getV r := (byteAt_of_ldMiVx hdump r.val).trans (dif_pos hr)

/-- Settles O49: what the load puts in each register, and a dump loaded back. -/
theorem loadRegisters : Obligations.LoadRegisters := by
  refine fun x s => ⟨decode_of_encode_eq rfl (encodeXI_eq_wordXI 0xF#4 x 0x65#8),
    fun hgt => exec_of_faultOf_some (if_pos hgt), fun hle => ?_,
    fun d u t hdump hframe hload r hr => getV_of_ldMiVx_ldVxMi hdump hframe hload hr⟩
  have hexec := exec_of_faultOf_none (i := .ldVxMi x) (s := s) (if_neg (Nat.not_lt.mpr hle))
  exact ⟨_, hexec, fun r hr => (getV_of_ldVxMi hexec r).trans (if_pos hr),
    fun r hr => (getV_of_ldVxMi hexec r).trans (if_neg (not_le.mpr hr)),
    instructionsWriteOnlyTheirParts _ _ _ hexec, rfl⟩

end Sys2Proof.Machine
end

section
/-! PROOFS. The display: a screen with some cells flipped (`Flipped`), which the blitter and R103's loops both compute from
the sprite's cells. -/

namespace Sys2Proof.Machine

/-- Settles O50: every row is written 0. -/
theorem clearScreen : Obligations.ClearScreen := by
  refine ⟨decode_of_encode_eq rfl rfl, fun s => ?_⟩
  have hexec := exec_of_faultOf_none (i := .cls) (s := s) rfl
  refine ⟨_, hexec, fun row col => ?_, instructionsWriteOnlyTheirParts _ _ _ hexec, rfl⟩
  simp [effect, State.pixel]

/-! ## Flipped cells -/

/-- The screen `p.1` is `fb` with exactly the given cells flipped, and the bit `p.2` says whether one of them was set
(R105). -/
structure Flipped (cells : Fin 32 → Fin 64 → Prop) (fb : Framebuffer) (p : Framebuffer × Bool) : Prop where
  flips : ∀ r c, cells r c → p.1[r].getLsbD c.val = !fb[r].getLsbD c.val
  keeps : ∀ r c, ¬ cells r c → p.1[r].getLsbD c.val = fb[r].getLsbD c.val
  collision : p.2 = true ↔ ∃ r c, cells r c ∧ fb[r].getLsbD c.val = true

theorem Flipped.congr {cells cells' : Fin 32 → Fin 64 → Prop} {fb : Framebuffer} {p : Framebuffer × Bool}
    (h : Flipped cells fb p) (hc : ∀ r c, cells' r c ↔ cells r c) : Flipped cells' fb p := by
  obtain rfl : cells' = cells := funext fun r => funext fun c => propext (hc r c)
  exact h

/-- With no cell to flip the screen stays and nothing collides. -/
theorem flipped_none {cells : Fin 32 → Fin 64 → Prop} (fb : Framebuffer) (h : ∀ r c, ¬ cells r c) :
    Flipped cells fb (fb, false) :=
  ⟨fun r c hc => absurd hc (h r c), fun _ _ _ => rfl, by simp [h]⟩

/-- The screen and the collision bit are determined by the cells flipped. -/
theorem Flipped.unique {cells : Fin 32 → Fin 64 → Prop} {fb : Framebuffer} {p q : Framebuffer × Bool}
    (hp : Flipped cells fb p) (hq : Flipped cells fb q) : p = q := by
  have hcell (r : Fin 32) (c : Fin 64) : p.1[r].getLsbD c.val = q.1[r].getLsbD c.val := by
    by_cases h : cells r c
    · rw [hp.flips r c h, hq.flips r c h]
    · rw [hp.keeps r c h, hq.keeps r c h]
  refine Prod.ext (Vector.ext fun r hr => BitVec.eq_of_getLsbD_eq fun c hc => hcell ⟨r, hr⟩ ⟨c, hc⟩) ?_
  exact Bool.eq_iff_iff.mpr (hp.collision.trans hq.collision.symm)

/-- A cell of the screen after one cell is flipped. -/
theorem getLsbD_flipCell (row r : Fin 32) (col c : Fin 64) (p : Framebuffer × Bool) :
    (flipCell row col p).1[r].getLsbD c.val = xor (p.1[r].getLsbD c.val) (decide (row = r ∧ col = c)) := by
  have hbit : (1#64 <<< col.val).getLsbD c.val = decide (col = c) := by
    rw [← BitVec.twoPow_eq, BitVec.getLsbD_twoPow]
    simp [Fin.ext_iff]
  simp only [flipCell, Fin.getElem_fin, Vector.getElem_set]
  by_cases hr : row = r
  · rw [if_pos (congrArg Fin.val hr), BitVec.getLsbD_xor, hbit]
    simp [hr]
  · rw [if_neg (mt Fin.ext hr)]
    simp [hr]

/-- Flipping a cell that was not yet flipped adds it to the cells flipped. -/
theorem flipped_flipCell {cells cells' : Fin 32 → Fin 64 → Prop} {fb : Framebuffer} {p : Framebuffer × Bool}
    {row : Fin 32} {col : Fin 64} (h : Flipped cells fb p) (hnew : ¬ cells row col)
    (hcells : ∀ r c, cells' r c ↔ cells r c ∨ (row = r ∧ col = c)) : Flipped cells' fb (flipCell row col p) := by
  have hold := h.keeps row col hnew
  refine ⟨fun r c hc => ?_, fun r c hc => ?_, ?_⟩
  · rw [getLsbD_flipCell]
    rcases (hcells r c).mp hc with hin | ⟨rfl, rfl⟩
    · have hne : ¬ (row = r ∧ col = c) := by rintro ⟨rfl, rfl⟩; exact hnew hin
      rw [h.flips r c hin, decide_eq_false hne, Bool.xor_false]
    · rw [hold, decide_eq_true ⟨rfl, rfl⟩, Bool.xor_true]
  · obtain ⟨hout, hne⟩ := not_or.mp (mt (hcells r c).mpr hc)
    rw [getLsbD_flipCell, h.keeps r c hout, decide_eq_false hne, Bool.xor_false]
  · have hcol : (flipCell row col p).2 = (p.2 || fb[row].getLsbD col.val) := congrArg (p.2 || ·) hold
    rw [hcol, Bool.or_eq_true, h.collision]
    simp only [hcells, or_and_right, exists_or, and_assoc, exists_and_left, exists_eq_left']

/-! ## The sprite's cells -/

/-- The cells under a set bit of the sprite of `n` rows at `I`, laid from column `x0` and row `y0` (R104, R108). -/
def SpriteCell (s : State) (x0 y0 n : Nat) (row : Fin 32) (col : Fin 64) : Prop :=
  y0 ≤ row.val ∧ row.val - y0 < n ∧ x0 ≤ col.val ∧ col.val - x0 ≤ 7 ∧
  (s.byteAt (s.i.toNat + (row.val - y0))).getLsbD (7 - (col.val - x0)) = true

/-- The statement's cells are those from the start that the model computes. -/
theorem spriteBit_iff_spriteCell {s : State} {x y : Reg} {n : BitVec 4} {row : Fin 32} {col : Fin 64} :
    SpriteBit s x y n row col ↔ SpriteCell s (s.startColumn x) (s.startRow y) n.toNat row col := Iff.rfl

/-- The blitter's mask is set exactly at the sprite's cells. -/
theorem getLsbD_spriteMask_iff {s : State} {x0 y0 n : Nat} {row : Fin 32} {col : Fin 64} :
    (spriteMask (s.bytesAt s.i.toNat n) x0 y0 row.val).getLsbD col.val = true ↔ SpriteCell s x0 y0 n row col := by
  rw [getLsbD_spriteMask _ _ _ _ _ _ _ col.isLt, Bool.and_eq_true, decide_eq_true_iff]
  simp only [SpriteCell, and_assoc]

/-- The pure draw flips the sprite's cells (R108). -/
theorem flipped_blit (s : State) (x0 y0 n : Nat) :
    Flipped (SpriteCell s x0 y0 n) s.fb
      (blit s.fb (s.bytesAt s.i.toNat n) x0 y0, collides s.fb (s.bytesAt s.i.toNat n) x0 y0) := by
  refine ⟨fun r c hc => ?_, fun r c hc => ?_, ?_⟩
  · rw [getElem_blit, BitVec.getLsbD_xor, getLsbD_spriteMask_iff.mpr hc, Bool.xor_true]
  · rw [getElem_blit, BitVec.getLsbD_xor, Bool.eq_false_iff.mpr (mt getLsbD_spriteMask_iff.mp hc), Bool.xor_false]
  · rw [collides_eq_true]
    simp only [getLsbD_spriteMask_iff, and_comm]

/-! ## The loops of R103 -/

/-- The sprite's cells that R103's loops have passed before they come to column `k` of row `n`. -/
def CellBefore (s : State) (x0 y0 n k : Nat) (row : Fin 32) (col : Fin 64) : Prop :=
  SpriteCell s x0 y0 (n + 1) row col ∧ (row.val - y0 < n ∨ col.val - x0 < k)

theorem cellBefore_zero {s : State} {x0 y0 n : Nat} {row : Fin 32} {col : Fin 64} :
    CellBefore s x0 y0 n 0 row col ↔ SpriteCell s x0 y0 n row col :=
  ⟨fun ⟨⟨hy, _, hrest⟩, hpassed⟩ => ⟨hy, by omega, hrest⟩, fun ⟨hy, hn, hrest⟩ => ⟨⟨hy, by omega, hrest⟩, .inl hn⟩⟩

theorem cellBefore_eight {s : State} {x0 y0 n : Nat} {row : Fin 32} {col : Fin 64} :
    CellBefore s x0 y0 n 8 row col ↔ SpriteCell s x0 y0 (n + 1) row col :=
  and_iff_left_of_imp fun ⟨_, _, _, hwidth, _⟩ => .inr (Nat.lt_succ_of_le hwidth)

/-- Column `k` of row `n` adds its cell when the cell is on the screen and its bit is set. -/
theorem cellBefore_succ {s : State} {x0 y0 n k : Nat} {row : Fin 32} {col : Fin 64} (hk : k < 8) :
    CellBefore s x0 y0 n (k + 1) row col ↔
      CellBefore s x0 y0 n k row col ∨
        ((s.byteAt (s.i.toNat + n)).getLsbD (7 - k) = true ∧ y0 + n = row.val ∧ x0 + k = col.val) := by
  constructor
  · rintro ⟨hcell, hpassed⟩
    by_cases hbefore : row.val - y0 < n ∨ col.val - x0 < k
    · exact .inl ⟨hcell, hbefore⟩
    · obtain ⟨hy, hn, hx, -, hbit⟩ := hcell
      obtain ⟨hrow, hcol⟩ : row.val - y0 = n ∧ col.val - x0 = k := by omega
      rw [hrow, hcol] at hbit
      exact .inr ⟨hbit, by omega, by omega⟩
  · rintro (⟨hcell, hbefore⟩ | ⟨hbit, hrow, hcol⟩)
    · exact ⟨hcell, by omega⟩
    · have hn : row.val - y0 = n := by omega
      have hk' : col.val - x0 = k := by omega
      refine ⟨⟨by omega, by omega, by omega, by omega, ?_⟩, by omega⟩
      rwa [hn, hk']

/-- The column loop's body keeps the invariant. -/
theorem flipped_loopColumn {s : State} {x0 y0 n k : Nat} {fb : Framebuffer} {p : Framebuffer × Bool} (hk : k < 8)
    (hrow : y0 + n < 32) (h : Flipped (CellBefore s x0 y0 n k) fb p) :
    Flipped (CellBefore s x0 y0 n (k + 1)) fb
      (loopColumn (s.byteAt (s.i.toNat + n)) x0 ⟨y0 + n, hrow⟩ p k) := by
  unfold loopColumn
  split
  next hcol =>
    split
    next hbit =>
      refine flipped_flipCell h (fun hin => ?_) fun r c => ?_
      · have hpassed := hin.2
        simp only at hpassed
        omega
      · rw [cellBefore_succ hk]
        simp [hbit, Fin.ext_iff]
    next hbit => exact h.congr fun r c => by simp [cellBefore_succ hk, hbit]
  next hcol =>
    refine h.congr fun r c => (cellBefore_succ hk).trans (or_iff_left ?_)
    rintro ⟨-, -, hc⟩
    omega

/-- The column loop passes its columns one by one. -/
theorem flipped_columns {s : State} {x0 y0 n k : Nat} {fb : Framebuffer} {p : Framebuffer × Bool} (hk : k ≤ 8)
    (hrow : y0 + n < 32) (h : Flipped (SpriteCell s x0 y0 n) fb p) :
    Flipped (CellBefore s x0 y0 n k) fb
      ((List.range k).foldl (loopColumn (s.byteAt (s.i.toNat + n)) x0 ⟨y0 + n, hrow⟩) p) := by
  induction k with
  | zero => exact h.congr fun _ _ => cellBefore_zero
  | succ k ih =>
    rw [List.range_succ, List.foldl_append]
    exact flipped_loopColumn hk hrow (ih (by omega))

/-- The row loop's body keeps the invariant; a row below the screen has no cell. -/
theorem flipped_loopRow {s : State} {x0 y0 n : Nat} {fb : Framebuffer} {p : Framebuffer × Bool}
    (h : Flipped (SpriteCell s x0 y0 n) fb p) : Flipped (SpriteCell s x0 y0 (n + 1)) fb (loopRow s x0 y0 p n) := by
  unfold loopRow
  split
  next hrow => exact (flipped_columns le_rfl (Nat.lt_succ_of_le hrow) h).congr fun _ _ => cellBefore_eight.symm
  next hrow =>
    refine h.congr fun r c => and_congr_right fun hy => and_congr_left' ?_
    have hlt := r.isLt
    omega

/-- R103's loops flip the sprite's cells. -/
theorem flipped_drawLoop (s : State) (x0 y0 n : Nat) : Flipped (SpriteCell s x0 y0 n) s.fb (drawLoop s x0 y0 n) := by
  unfold drawLoop
  induction n with
  | zero => exact flipped_none s.fb fun r c hc => by have := hc.2.1; omega
  | succ n ih =>
    rw [List.range_succ, List.foldl_append]
    exact flipped_loopRow ih

/-- Settles O53: both flip the sprite's cells, and that determines the result. -/
theorem drawLoopIsThePureDraw : Obligations.DrawLoopIsThePureDraw := fun s x0 y0 n _ _ =>
  (flipped_drawLoop s x0 y0 n).unique (flipped_blit s x0 y0 n)

/-! ## `DRW` -/

/-- A completed `DRW` flips the cells under the sprite and puts the collision bit in `VF` (R103, R105). -/
theorem flipped_of_drw {x y : Reg} {n : BitVec 4} {s t : State} (h : exec (.drw x y n) s = .next t) :
    ∃ f, Flipped (SpriteBit s x y n) s.fb (t.fb, f) ∧ t.getV VF = if f then 1 else 0 := by
  obtain ⟨_, rfl⟩ := execDrw_eq_next.mp h
  refine ⟨_, (flipped_blit s (s.startColumn x) (s.startRow y) n.toNat).congr fun _ _ => spriteBit_iff_spriteCell, ?_⟩
  rw [State.setReply_getV, State.getV_setFlag, if_pos rfl]

/-- Settles O51: the cells flipped are those under the sprite. -/
theorem drawXorsTheSprite : Obligations.DrawXorsTheSprite := by
  refine fun x y n s => ⟨decode_of_encode_eq rfl (encodeXYN_eq_wordXYN 0xD#4 x y n),
    fun hpos hgt => exec_of_faultOf_some (if_pos ⟨hpos, hgt⟩), fun hle => ?_⟩
  have hexec : exec (.drw x y n) s = _ := execDrw_of_le (by omega)
  obtain ⟨f, hflipped, hvf⟩ := flipped_of_drw hexec
  refine ⟨_, hexec, hflipped.flips, hflipped.keeps, fun hset => ?_, fun hclear => ?_, fun r hr => getV_execDrw hexec hr,
    instructionsWriteOnlyTheirParts _ _ _ hexec, rfl⟩
  · exact hvf.trans (if_pos (hflipped.collision.mpr hset))
  · exact hvf.trans (if_neg (mt hflipped.collision.mp hclear))

/-- A draw that leaves its coordinates finds the same sprite at the same place again. -/
theorem spriteBit_of_drw {x y : Reg} {n : BitVec 4} {s t : State} (h : exec (.drw x y n) s = .next t)
    (hx : t.getV x = s.getV x) (hy : t.getV y = s.getV y) : SpriteBit t x y n = SpriteBit s x y n := by
  unfold SpriteBit
  simp only [hx, hy, i_execDrw h, byteAt_execDrw h]

/-- Settles O52: the second draw flips the first one's cells back, and collides where the first set one. -/
theorem drawTwiceErases : Obligations.DrawTwiceErases := by
  intro x y n s t u hst hx hy htu
  obtain ⟨_, hfirst, _⟩ := flipped_of_drw hst
  obtain ⟨f, hsecond, hvf⟩ := flipped_of_drw htu
  rw [spriteBit_of_drw hst hx hy] at hsecond
  refine ⟨fun row col => ?_, ?_⟩
  · by_cases hbit : SpriteBit s x y n row col
    · exact (hsecond.flips row col hbit).trans (by rw [hfirst.flips row col hbit, Bool.not_not]; rfl)
    · exact (hsecond.keeps row col hbit).trans (hfirst.keeps row col hbit)
  · rintro ⟨row, col, hbit, hclear⟩
    have hset : t.fb[row].getLsbD col.val = true := (hfirst.flips row col hbit).trans (congrArg (! ·) hclear)
    exact hvf.trans (if_pos (hsecond.collision.mpr ⟨row, col, hbit, hset⟩))

end Sys2Proof.Machine
end

section
/-! PROOFS. The keypad and timer instructions, `LD Vx, K` branch by branch, and that a latched key keeps its `LD Vx, K`
at `pc`. -/

namespace Sys2Proof.Machine

/-! ## The branches of `LD Vx, K` (R112) -/

theorem exec_ldVxK_of_press {s : State} (x : Reg) (hq : s.config.keyWaitRelease = false) :
    exec (.ldVxK x) s = finish false (s.waitPress x) :=
  congrArg (finish false) (if_neg (Bool.eq_false_iff.mp hq))

theorem exec_ldVxK_of_release {s : State} (x : Reg) (hq : s.config.keyWaitRelease = true) :
    exec (.ldVxK x) s = finish false (s.waitRelease x) := congrArg (finish false) (if_pos hq)

theorem State.waitPress_of_some {s : State} {k : Key} (x : Reg) (hk : s.leastPressed = some k) :
    s.waitPress x = s.setKeyV x k := by
  rw [State.waitPress, hk]

theorem State.waitPress_of_none {s : State} (x : Reg) (hnone : s.leastPressed = none) : s.waitPress x = s.rewind := by
  rw [State.waitPress, hnone]

/-- Nothing is latched and no key is pressed. -/
theorem State.waitRelease_of_none {s : State} (x : Reg) (hw : s.keyWait = none) (hnone : s.leastPressed = none) :
    s.waitRelease x = s.rewind := by
  simp only [State.waitRelease, hw, hnone]

/-- Nothing is latched and `k` is the least pressed key. -/
theorem State.waitRelease_of_some {s : State} {k : Key} (x : Reg) (hw : s.keyWait = none)
    (hk : s.leastPressed = some k) : s.waitRelease x = (s.setKeyWait (some k)).rewind := by
  simp only [State.waitRelease, hw, hk]

/-- The latched key is still pressed. -/
theorem State.waitRelease_of_down {s : State} {k : Key} (x : Reg) (hw : s.keyWait = some k)
    (hdown : s.pressed k = true) : s.waitRelease x = s.rewind := by
  simp only [State.waitRelease, hw, hdown, if_true]

/-- The latched key is up. -/
theorem State.waitRelease_of_up {s : State} {k : Key} (x : Reg) (hw : s.keyWait = some k)
    (hup : s.pressed k = false) : s.waitRelease x = (s.setKeyV x k).setKeyWait none := by
  simp only [State.waitRelease, hw, hup, Bool.false_eq_true, if_false]

/-! ## A latched key keeps its `LD Vx, K` at `pc` -/

/-- With the quirk off `KEYWAIT` is not written (R21). -/
theorem keyWait_of_ldVxK_press {x : Reg} {s t : State} (h : exec (.ldVxK x) s = .next t)
    (hq : s.config.keyWaitRelease = false) : t.keyWait = s.keyWait := by
  rw [exec_ldVxK_of_press x hq, finish_eq_next] at h
  rw [h]
  exact waitPress_frame s x .keyWait (by simp)

/-- An `LD Vx, K` that ends with a key latched has put `pc` back: the one branch that does not clears the latch. -/
theorem State.pc_waitRelease_of_latched {s : State} {x : Reg} (hlatched : (s.waitRelease x).keyWait ≠ none) :
    (s.waitRelease x).pc = s.pc - 2 := by
  cases hw : s.keyWait with
  | none =>
    cases hk : s.leastPressed with
    | none => rw [State.waitRelease_of_none x hw hk, State.rewind_pc]
    | some k => rw [State.waitRelease_of_some x hw hk, State.rewind_pc, State.setKeyWait_pc]
  | some k =>
    cases hp : s.pressed k with
    | true => rw [State.waitRelease_of_down x hw hp, State.rewind_pc]
    | false =>
      rw [State.waitRelease_of_up x hw hp] at hlatched
      exact absurd rfl hlatched

theorem pc_of_ldVxK_release {x : Reg} {s t : State} (h : exec (.ldVxK x) s = .next t)
    (hq : s.config.keyWaitRelease = true) (hlatched : t.keyWait ≠ none) : t.pc = s.pc - 2 := by
  rw [exec_ldVxK_of_release x hq, finish_eq_next] at h
  subst h
  exact State.pc_waitRelease_of_latched hlatched

/-- `LD Vx, K` is the one instruction that may write `KEYWAIT` (R21). -/
theorem keyWait_mem_partsWritten_iff {i : Instr} : .keyWait ∈ partsWritten i ↔ ∃ x, i = .ldVxK x := by
  cases i <;> simp [partsWritten]

/-- The word at `pc` depends on `pc` and memory only. -/
theorem State.nextWord_congr {s t : State} (hpc : t.pc = s.pc) (hmem : ∀ a, t.byteAt a = s.byteAt a) :
    t.nextWord = s.nextWord := by
  rw [State.nextWord, State.nextWord, hpc, hmem, hmem]

/-- The invariant speaks of four pieces of the state only. -/
theorem State.WaitInv.congr {s t : State} (h : s.WaitInv) (hpc : t.pc = s.pc) (hmem : ∀ a, t.byteAt a = s.byteAt a)
    (hkeyWait : t.keyWait = s.keyWait) (hconfig : t.config = s.config) : t.WaitInv := by
  unfold State.WaitInv
  rw [hkeyWait, hconfig, hpc, State.nextWord_congr hpc hmem]
  exact h

/-- A cycle after which a key is latched has run an `LD Vx, K`: another instruction would have left `KEYWAIT` alone, and
with a key latched before, the word at `pc` was an `LD Vx, K` already. -/
theorem State.WaitInv.ldVxK_of_latched {s t : State} {i : Instr} (h : s.WaitInv) (hi : decode s.nextWord = .ok i)
    (hexec : exec i (s.setPc (s.pc + 2)) = .next t) (hlatched : t.keyWait ≠ none) : ∃ x, i = .ldVxK x := by
  by_contra hnot
  have hkeep : t.keyWait = s.keyWait :=
    instructionsWriteOnlyTheirParts _ _ _ hexec .keyWait (mt keyWait_mem_partsWritten_iff.mp hnot)
  obtain ⟨_, _, x, hx⟩ := h (hkeep ▸ hlatched)
  exact hnot ⟨x, Except.ok.inj (hi.symm.trans hx)⟩

/-- A cycle keeps the invariant: an `LD Vx, K` that ends with a key latched ran with the quirk on and undid the fetch's
advance of `pc`. -/
theorem cycle_keeps_waitInv {s t : State} (h : s.WaitInv) (hs : cycle s = .next t) : t.WaitInv := by
  obtain ⟨_, hle, i, hi, hexec⟩ := cycle_eq_next hs
  intro hlatched
  obtain ⟨x, rfl⟩ := h.ldVxK_of_latched hi hexec hlatched
  have hq : s.config.keyWaitRelease = true := by
    by_contra hoff
    have hkeep : t.keyWait = (s.setPc (s.pc + 2)).keyWait := keyWait_of_ldVxK_press hexec (Bool.eq_false_iff.mpr hoff)
    exact hoff (h (hkeep ▸ hlatched)).1
  have hpc : t.pc = s.pc := (pc_of_ldVxK_release hexec hq hlatched).trans (BitVec.add_sub_cancel _ _)
  have hframe := instructionsWriteOnlyTheirParts _ _ _ hexec
  have hmem : ∀ a, t.byteAt a = s.byteAt a := hframe .mem (by simp [partsWritten])
  have hconfig : t.config = s.config := hframe .config (by simp [partsWritten])
  exact ⟨hconfig ▸ hq, hpc ▸ hle, x, State.nextWord_congr hpc hmem ▸ hi⟩

theorem perform_keeps_waitInv {op : Operation} {s t : State} (h : s.WaitInv) (hs : perform op s = .next t) :
    t.WaitInv := by
  have hframe := operationsChangeOnlyTheirOwn op s t hs
  cases op with
  | reset config rom =>
    obtain ⟨_, _, rfl⟩ := resetWith_eq_next.mp hs
    exact fun hlatched => absurd rfl hlatched
  | cycle => exact cycle_keeps_waitInv h hs
  | tickDelay | tickSound | tickTimers | setKeys _ | readFramebuffer | readSoundTimer | readDelayTimer =>
    exact h.congr (hframe .pc (by simp [operationWrites])) (hframe .mem (by simp [operationWrites]))
      (hframe .keyWait (by simp [operationWrites])) (hframe .config (by simp [operationWrites]))

theorem State.WaitInv.dequeue {s : State} (h : s.WaitInv) : s.dequeue.WaitInv := h

/-- Settles O19: a step is one operation, and each keeps the invariant. -/
theorem stepKeepsTheKeyWait : Obligations.StepKeepsTheKeyWait :=
  fun _ _ h hs => perform_keeps_waitInv h.dequeue hs

/-! ## `LD Vx, K` -/

/-- An instruction that only puts `pc` back. -/
theorem exec_of_rewind {i : Instr} {s : State} (hexec : exec i s = finish false s.rewind) :
    ∃ t, exec i s = .next t ∧ t.pc = s.pc - 2 ∧ FrameExcept [.pc] s t ∧ t.reply = .ok false :=
  ⟨_, hexec, rfl, by simp [frameExcept_iff], rfl⟩

/-- A key's index fits in a register. -/
theorem State.getV_setKeyV_toNat (s : State) (x : Reg) (k : Key) : ((s.setKeyV x k).getV x).toNat = k.val := by
  rw [State.getV_setKeyV, if_pos rfl, BitVec.toNat_ofNat, Nat.mod_eq_of_lt (by omega)]

/-- Settles O55: the least pressed key is written, or `pc` goes back. -/
theorem waitForPress : Obligations.WaitForPress := by
  refine fun x s hq => ⟨decode_of_encode_eq rfl (encodeXI_eq_wordXI 0xF#4 x 0x0A#8), fun k hdown hless => ?_,
    fun hnone => exec_of_rewind ?_⟩
  · have hexec := exec_ldVxK_of_press x hq
    rw [State.waitPress_of_some x (State.leastPressed_eq_some.mpr ⟨hdown, hless⟩)] at hexec
    exact ⟨_, hexec, s.getV_setKeyV_toNat x k, fun r hr => State.getV_setV_ne s hr _, by simp [frameExcept_iff],
      rfl⟩
  · rw [exec_ldVxK_of_press x hq, State.waitPress_of_none x (State.leastPressed_eq_none.mpr hnone)]

/-- Settles O56: the four branches of the wait. -/
theorem waitForRelease : Obligations.WaitForRelease := by
  intro x s hq
  have hexec := exec_ldVxK_of_release x hq
  refine ⟨fun hw hnone => ?_, fun k hw hdown hless => ?_, fun k hw hdown => ?_, fun k hw hup => ?_⟩
  · rw [State.waitRelease_of_none x hw (State.leastPressed_eq_none.mpr hnone)] at hexec
    exact exec_of_rewind hexec
  · rw [State.waitRelease_of_some x hw (State.leastPressed_eq_some.mpr ⟨hdown, hless⟩)] at hexec
    exact ⟨_, hexec, rfl, rfl, by simp [frameExcept_iff], rfl⟩
  · rw [State.waitRelease_of_down x hw hdown] at hexec
    exact exec_of_rewind hexec
  · rw [State.waitRelease_of_up x hw hup] at hexec
    exact ⟨_, hexec, s.getV_setKeyV_toNat x k, rfl, fun r hr => State.getV_setV_ne s hr _, by simp [frameExcept_iff],
      rfl⟩

/-! ## The key skips and the timers -/

/-- Settles O54: the key compared is the low nibble's. -/
theorem skipOnKey : Obligations.SkipOnKey := by
  intro x k s hk
  obtain rfl : s.lowNibble x = k := Fin.ext ((s.lowNibble_val x).trans hk)
  exact ⟨decode_of_encode_eq rfl (encodeXI_eq_wordXI 0xE#4 x 0x9E#8),
    decode_of_encode_eq rfl (encodeXI_eq_wordXI 0xE#4 x 0xA1#8), exec_of_skipIf rfl id id,
    exec_of_skipIf rfl (Bool.not_eq_true' _).mpr (Bool.not_eq_false' _).mpr⟩

/-- Settles O57: each writes its destination with the value read from its source. -/
theorem timerMoves : Obligations.TimerMoves := fun x _ =>
  ⟨decode_of_encode_eq rfl (encodeXI_eq_wordXI 0xF#4 x 0x07#8),
    decode_of_encode_eq rfl (encodeXI_eq_wordXI 0xF#4 x 0x15#8),
    decode_of_encode_eq rfl (encodeXI_eq_wordXI 0xF#4 x 0x18#8), exec_of_setV rfl,
    ⟨_, rfl, rfl, instructionsWriteOnlyTheirParts (.ldDtVx x) _ _ rfl, rfl⟩,
    ⟨_, rfl, rfl, instructionsWriteOnlyTheirParts (.ldStVx x) _ _ rfl, rfl⟩⟩

end Sys2Proof.Machine
end

section
/-! PROOFS. The faults: which instruction raises which, the two faults of a cycle before an instruction runs, the output
signals, and the timer ticks. -/

namespace Sys2Proof.Machine

/-! ## Instructions (R120 to R124) -/

/-- No instruction is ever refused. -/
theorem exec_ne_refused (i : Instr) (s : State) (r : Refusal) : exec i s ≠ .refused r := by
  cases h : faultOf s i with
  | none => simp [exec_of_faultOf_none h]
  | some f => simp [exec_of_faultOf_some h]

/-- Settles O22: `exec` in normal form faults with `faultOf` or finishes. -/
theorem instructionsFaultExactlyOnTheirCondition : Obligations.InstructionsFaultExactlyOnTheirCondition :=
  fun i s => ⟨fun _ => exec_eq_fault, fun h => ⟨_, exec_of_faultOf_none h⟩, exec_ne_refused i s⟩

/-- `CALL` is the one instruction whose condition gives a `StackOverflow` (R122). -/
theorem faultOf_eq_stackOverflow {i : Instr} {s : State} :
    faultOf s i = some .stackOverflow ↔ (∃ nnn, i = .call nnn) ∧ s.sp.val = 16 := by
  cases i <;> simp [faultOf]

/-- `RET` is the one instruction whose condition gives a `StackUnderflow` (R123). -/
theorem faultOf_eq_stackUnderflow {i : Instr} {s : State} :
    faultOf s i = some .stackUnderflow ↔ i = .ret ∧ s.sp.val = 0 := by
  cases i <;> simp [faultOf]

/-- Settles O23: an instruction's fault is `faultOf`'s. -/
theorem stackFaultsExact : Obligations.StackFaultsExact := fun _ _ =>
  ⟨exec_eq_fault.trans faultOf_eq_stackOverflow, exec_eq_fault.trans faultOf_eq_stackUnderflow⟩

/-! ## A cycle's faults before an instruction runs (R125) -/

/-- A cycle whose `pc` the fetch does not accept (R34, R121). -/
theorem cycle_of_pc_gt {s : State} (hf : s.fault = none) (hpc : s.pc.toNat > 4094) :
    cycle s = .fault (.memoryFault s.pc.toNat) := by
  simp only [cycle, unlessFaulted_of_none _ hf, fetch_of_gt hpc, raiseFault]

/-- A cycle whose word matches no pattern (R124). -/
theorem cycle_of_decode_error {s : State} {e : Unmatched} (hf : s.fault = none) (hpc : s.pc.toNat ≤ 4094)
    (he : decode s.nextWord = .error e) : cycle s = .fault (.invalidOpcode s.nextWord) := by
  have he' : decode (wordOfBytes (s.byteAt s.pc.toNat) (s.byteAt (s.pc.toNat + 1))) = .error e := he
  simp only [cycle, unlessFaulted_of_none _ hf, fetch_of_le hpc, he', raiseFault, State.nextWord]

/-- Settles O6: the step is a cycle from the state without its first operation, which has the same `pc`, latch and word. -/
theorem cycleFaultsBeforeExecution : Obligations.CycleFaultsBeforeExecution := by
  intro s hop hf
  rw [step, hop]
  refine ⟨fun hpc => cycle_of_pc_gt (s := s.dequeue) hf hpc, fun hpc hnone => ?_⟩
  cases hdecode : decode s.nextWord with
  | ok i => exact absurd hdecode (hnone i)
  | error e => exact cycle_of_decode_error (s := s.dequeue) hf hpc hdecode

/-! ## The output signals (R69, R132) -/

theorem State.faultKind_of_none {s : State} (h : s.fault = none) : s.faultKind = 0 := by
  rw [State.faultKind, h]

theorem State.faultKind_of_some {s : State} {f : Fault} (h : s.fault = some f) : s.faultKind = codeOfR120 f := by
  rw [State.faultKind, h, ← code_eq_codeOfR120]

theorem State.tone_eq_true {s : State} : s.tone = true ↔ s.st ≠ 0 := bne_iff_ne

/-- Settles O59: with a fault latched, `fault_kind` is R120's code of it. -/
theorem outputSignals : Obligations.OutputSignals := fun _ =>
  ⟨State.faultKind_of_none, fun _ => State.faultKind_of_some, State.faultKind_of_some, State.faultKind_of_some,
    fun _ => State.faultKind_of_some, State.tone_eq_true⟩

/-! ## The ticks (R131) -/

/-- A tick takes one from a timer, and none from 0. -/
theorem ticked_toNat (b : Byte) : (ticked b).toNat = b.toNat - 1 := by
  unfold ticked
  split
  next hzero => rw [hzero]; rfl
  next hne => bv_omega

theorem perform_tickDelay {s : State} (hf : s.fault = none) :
    perform .tickDelay s = .next ((s.setDt (ticked s.dt)).setReply .done) := unlessFaulted_of_none _ hf

theorem perform_tickSound {s : State} (hf : s.fault = none) :
    perform .tickSound s = .next ((s.setSt (ticked s.st)).setReply .done) := unlessFaulted_of_none _ hf

theorem perform_tickTimers {s : State} (hf : s.fault = none) :
    perform .tickTimers s = .next (((s.setDt (ticked s.dt)).setSt (ticked s.st)).setReply .done) :=
  unlessFaulted_of_none _ hf

/-- Settles O10: each tick sets its timer to `ticked`; after `TickDelay` no fault is latched and `ST` is as it was, so
`TickSound` leaves what the combined tick does. -/
theorem ticksDecrementTowardZero : Obligations.TicksDecrementTowardZero := by
  intro s hf
  have hdelay := perform_tickDelay hf
  have hsound := perform_tickSound hf
  exact ⟨⟨_, hdelay, ticked_toNat s.dt, operationsChangeOnlyTheirOwn _ _ _ hdelay⟩,
    ⟨_, hsound, ticked_toNat s.st, operationsChangeOnlyTheirOwn _ _ _ hsound⟩,
    ⟨_, _, hdelay, perform_tickSound hf, perform_tickTimers hf⟩⟩

end Sys2Proof.Machine
end

section
/-! PROOFS. When `Reset` is refused, and that it forgets the former state. -/

namespace Sys2Proof.Machine

/-- A ROM that does not fit is refused with its length, whatever the configuration (R141, D13). -/
theorem resetWith_of_long_rom {config : Config} {rom : List Byte} (s : State) (hrom : rom.length > 3584) :
    resetWith config rom s = .refused (.romTooLong rom.length) := if_pos hrom

/-- A font that reaches the program origin is refused with its base, when the ROM fits (R140). -/
theorem resetWith_of_not_valid {config : Config} {rom : List Byte} (s : State) (hrom : rom.length ≤ 3584)
    (hfont : ¬ config.Valid) : resetWith config rom s = .refused (.fontBaseTooHigh config.fontBase) :=
  (if_neg (Nat.not_lt.mpr hrom)).trans (if_neg hfont)

/-- Settles O16: the two refusals, and `resetWith_eq_next`, whose next state takes from the former one only the schedule
and the draw counter. -/
theorem resetIgnoresTheFormerState : Obligations.ResetIgnoresTheFormerState := by
  refine ⟨fun _ _ s hrom => resetWith_of_long_rom s hrom, fun _ _ s hrom hfont => resetWith_of_not_valid s hrom hfont,
    fun _ _ _ hrom hfont => ⟨_, resetWith_eq_next.mpr ⟨hrom, hfont, rfl⟩⟩, fun config rom s s' t t' ht ht' => ?_⟩
  obtain ⟨_, _, rfl⟩ := resetWith_eq_next.mp ht
  obtain ⟨_, _, rfl⟩ := resetWith_eq_next.mp ht'
  rfl

end Sys2Proof.Machine
end
